-- ==== Sys2Proof/Word.lean ====
section
/-! DEFINITION. The unsigned word types of the block (R10): `u8`, `u16`, `u24`, `u32` and `u48`.
No value of the block is signed (R10, R188). -/

namespace Sys2Proof

/-- `u8` (R10): a slot of a frame, a byte of a buffer. -/
abbrev Byte := BitVec 8

/-- `u16` (R10): a PID, a sub-device, a NACK reason, a checksum, a manufacturer ID. -/
abbrev Word16 := BitVec 16

/-- `u24` (R71): a dispatch key. -/
abbrev Key := BitVec 24

/-- `u32` (R10): a device ID, a software version ID. -/
abbrev Word32 := BitVec 32

/-- `u48` (R10, R19): a UID, manufacturer ID in bits [47:32], device ID in bits [31:0]. -/
abbrev Uid := BitVec 48

end Sys2Proof
end

