-- ==== Sys2Proof/Machine/Bytes.lean ====
section
/-! DEFINITION. Bit fields and byte order (R10, R44 to R46): every multi-byte field is big-endian,
the most significant byte in the lowest slot; a UID is sent manufacturer ID first (R45). And the
additive checksum (R87), the one function that validator, generator and DUB encoder share. -/

namespace Sys2Proof

/-- `be16` (R10). -/
def be16 (x : Word16) : List Byte := [x.extractLsb' 8 8, x.extractLsb' 0 8]

/-- `be32` (R10). -/
def be32 (x : Word32) : List Byte :=
  [x.extractLsb' 24 8, x.extractLsb' 16 8, x.extractLsb' 8 8, x.extractLsb' 0 8]

/-- `be48` (R10, R45). -/
def be48 (x : Uid) : List Byte :=
  [x.extractLsb' 40 8, x.extractLsb' 32 8, x.extractLsb' 24 8, x.extractLsb' 16 8,
   x.extractLsb' 8 8, x.extractLsb' 0 8]

/-- `from_be` (R10): the bytes as one big-endian unsigned integer. -/
def fromBe (bs : List Byte) : Nat := bs.foldl (fun acc b => acc * 256 + b.toNat) 0

/-- `b[i .. i+n)` (R10, R60): the `n` bytes from index `i`. -/
def slice (bs : List Byte) (i n : Nat) : List Byte := (bs.drop i).take n

/-- Slot `i` of a buffer that has one (R11, R40); its callers have checked the length. -/
def slot (bs : List Byte) (i : Nat) : Byte := bs.getD i 0

/-- Bits [47:32] of a UID (R19, R60). -/
def manufacturerId (u : Uid) : Word16 := u.extractLsb' 32 16

/-- Bits [31:0] of a UID (R19, R60). -/
def deviceId (u : Uid) : Word32 := u.extractLsb' 0 32

/-- `CHECKSUM16` (R87): the sum of the bytes modulo 2^16. -/
def checksum16 (bs : List Byte) : Word16 := BitVec.ofNat 16 (bs.map BitVec.toNat).sum

end Sys2Proof
end

