-- ==== Sys2Proof/Machine/Protocol.lean ====
section
/-! DEFINITION. The fixed dimensions of R8 and the protocol constants of R65 to R70. Where the spec
marks a value as general knowledge of E1.20 (its items G1 to G19), the spec itself fixes it. -/

namespace Sys2Proof

/-! ## Fixed dimensions (R8) -/

/-- The largest parameter-data length. -/
abbrev maxPdl : Nat := 231

/-- The number of header slots. -/
abbrev hdrLen : Nat := 24

/-- The number of checksum slots. -/
abbrev csLen : Nat := 2

/-- The smallest frame: header and checksum. -/
abbrev minFrame : Nat := hdrLen + csLen

/-- The largest frame. -/
abbrev maxFrame : Nat := hdrLen + maxPdl + csLen

/-- The length of the discovery branch response. -/
abbrev dubLen : Nat := 24

/-- The largest label. -/
abbrev labelMax : Nat := 32

/-- The largest number of supported PIDs (R9). -/
abbrev supportedPidsMax : Nat := 115

/-! ## Start codes (R65) and command classes (R66) -/

abbrev startCodeValue : Byte := 0xCC
abbrev subStartCodeValue : Byte := 0x01

abbrev ccDiscovery : Byte := 0x10
abbrev ccGet : Byte := 0x20
abbrev ccSet : Byte := 0x30

/-- R75: the supported command classes. -/
def supportedCc (cc : Byte) : Bool := cc == ccDiscovery || cc == ccGet || cc == ccSet

/-! ## Response types (R67) -/

abbrev rtAck : Byte := 0x00
abbrev rtAckTimer : Byte := 0x01
abbrev rtNackReason : Byte := 0x02

/-- Never produced (R80). -/
abbrev rtAckOverflow : Byte := 0x03

/-! ## NACK reason codes (R68). Those the block produces are the four of R161. -/

abbrev nrUnknownPid : Word16 := 0x0000
abbrev nrFormatError : Word16 := 0x0001
abbrev nrHardwareFault : Word16 := 0x0002
abbrev nrProxyReject : Word16 := 0x0003
abbrev nrWriteProtect : Word16 := 0x0004
abbrev nrUnsupportedCommandClass : Word16 := 0x0005
abbrev nrDataOutOfRange : Word16 := 0x0006
abbrev nrBufferFull : Word16 := 0x0007
abbrev nrPacketSizeUnsupported : Word16 := 0x0008
abbrev nrSubDeviceOutOfRange : Word16 := 0x0009
abbrev nrProxyBufferFull : Word16 := 0x000A

/-! ## PIDs (R69) -/

abbrev pidDiscUniqueBranch : Word16 := 0x0001
abbrev pidDiscMute : Word16 := 0x0002
abbrev pidDiscUnMute : Word16 := 0x0003
abbrev pidSupportedParameters : Word16 := 0x0050
abbrev pidDeviceInfo : Word16 := 0x0060
abbrev pidDeviceModelDescription : Word16 := 0x0080
abbrev pidManufacturerLabel : Word16 := 0x0081
abbrev pidDeviceLabel : Word16 := 0x0082
abbrev pidSoftwareVersionLabel : Word16 := 0x00C0
abbrev pidIdentifyDevice : Word16 := 0x1000

/-! ## Special UIDs (R70) -/

/-- The all-devices UID. -/
abbrev uidAll : Uid := 0xFFFFFFFFFFFF

/-- The vendorcast UID `VC(m)`. -/
def vendorcast (m : Word16) : Uid := (m.setWidth 48 <<< 32) ||| 0xFFFFFFFF

/-! ## Fixed parameter data -/

/-- The Mute and UnMute control field (R74). -/
abbrev muteControlField : Word16 := 0x0000

/-- The RDM protocol version of DEVICE_INFO (R141, bytes 0..1). -/
abbrev rdmProtocolVersion : Word16 := 0x0100

/-- The sub-device count of DEVICE_INFO (R141, bytes 16..17): only the root device. -/
abbrev rootSubDeviceCount : Word16 := 0x0000

/-- The default `supported_pids` of R139, which a host may put into its `Cfg`. -/
def defaultSupportedPids : List Word16 :=
  [pidDeviceModelDescription, pidManufacturerLabel, pidDeviceLabel]

end Sys2Proof
end

