-- ==== Sys2Proof/Config.lean ====
section
/-! DEFINITION. The configuration record `Cfg` of R7, the operand of INIT and the content of the
configuration registers (R18), and the port identifier types the spec leaves open (D32). -/

namespace Sys2Proof

/-- R7, D32 (OPEN): an opaque identifier that the block passes unchanged to the port capability.
A natural number holds an identifier of every width (DESIGN CHOICE, safe: log entry 3). -/
abbrev PortChannel := Nat

/-- R7, D32 (OPEN): as `PortChannel`, the bit of the channel (log entry 3). -/
abbrev PortBit := Nat

/-- The configurable fields of the DEVICE_INFO parameter data (R7, R141). The protocol version and
the sub-device count of R141 are fixed and are not fields. -/
structure DeviceInfo where
  modelId            : Word16
  productCategory    : Word16
  softwareVersionId  : Word32
  dmxFootprint       : Word16
  personalityCurrent : Byte
  personalityCount   : Byte
  dmxStartAddress    : Word16
  sensorCount        : Byte
  deriving DecidableEq, Repr

/-- The configuration record of R7. `send_present`, which R7's table lists beside these fields, is a
separate operand of INIT (R57, R152) and a register of its own (R22). -/
structure Cfg where
  ownUid               : Uid
  identifyCh           : PortChannel
  identifyBit          : PortBit
  muteCh               : PortChannel
  muteBit              : PortBit
  deviceInfo           : DeviceInfo
  supportedPids        : List Word16
  modelDescription     : List Byte
  manufacturerLabel    : List Byte
  softwareVersionLabel : List Byte
  defaultDeviceLabel   : List Byte
  deriving DecidableEq, Repr

end Sys2Proof
end

