-- ==== Sys2Proof/Syntax.lean ====
section
/-! DEFINITION. The two encoding levels of R56 as syntax: the operand bundle of an interface
operation (R57), the request header (R59, R60), and `Instr`, one constructor for every row of
spec/opcode_table.json: five interface operations and twelve dispatch keys (R76). -/

namespace Sys2Proof

/-- One interface operation as the host presents it (R57): the select `OP[2:0]` and the operands of
all five operations. An operation reads only its own operands. -/
structure OpBundle where
  op          : BitVec 3
  cfg         : Cfg
  sendPresent : Bool
  buf         : List Byte
  length      : Nat
  dest        : Uid
  hdr         : List Byte
  pd          : List Byte
  pdLen       : Nat
  deriving DecidableEq, Repr

/-- The 24 header slots of a request frame as fields (R59, R60). -/
structure RequestHeader where
  startCode    : Byte
  subStartCode : Byte
  msgLen       : Byte
  dest         : Uid
  src          : Uid
  tn           : Byte
  portId       : Byte
  msgCount     : Byte
  subDevice    : Word16
  cc           : Byte
  pid          : Word16
  pdl          : Byte
  deriving DecidableEq, Repr

/-- The operands of a request kind (R76): what HANDLE_REQUEST is given (R57), less the command class
and the PID, which the kind itself fixes. -/
structure RequestOperands where
  startCode    : Byte
  subStartCode : Byte
  msgLen       : Byte
  dest         : Uid
  src          : Uid
  tn           : Byte
  portId       : Byte
  msgCount     : Byte
  subDevice    : Word16
  pdl          : Byte
  pd           : List Byte
  pdLen        : Nat
  deriving DecidableEq, Repr

/-- The instructions: one constructor for each row of spec/opcode_table.json.

The first five are the interface operations of R57. The other twelve are the request kinds of R76:
a HANDLE_REQUEST whose dispatch key (R71) is the key of that row. -/
inductive Instr where
  /-- INIT, OP = 000 (R152). -/
  | init (cfg : Cfg) (sendPresent : Bool)
  /-- VERIFY_CHECKSUM, OP = 001 (R88). -/
  | verifyChecksum (buf : List Byte) (length : Nat)
  /-- REQUIRES_ACTION, OP = 010 (R94). -/
  | requiresAction (dest : Uid)
  /-- HANDLE_REQUEST, OP = 011 (R113), on any request. -/
  | handleRequest (hdr : List Byte) (pd : List Byte) (pdLen : Nat)
  /-- IS_MUTED, OP = 100 (R154). -/
  | isMuted
  /-- DISC_UNIQUE_BRANCH, key 0x100001 (R130). -/
  | discUniqueBranch (r : RequestOperands)
  /-- DISC_MUTE, key 0x100002 (R127). -/
  | discMute (r : RequestOperands)
  /-- DISC_UN_MUTE, key 0x100003 (R128). -/
  | discUnMute (r : RequestOperands)
  /-- GET SUPPORTED_PARAMETERS, key 0x200050 (R138). -/
  | getSupportedParameters (r : RequestOperands)
  /-- GET DEVICE_INFO, key 0x200060 (R140). -/
  | getDeviceInfo (r : RequestOperands)
  /-- GET DEVICE_MODEL_DESCRIPTION, key 0x200080 (R142). -/
  | getDeviceModelDescription (r : RequestOperands)
  /-- GET MANUFACTURER_LABEL, key 0x200081 (R143). -/
  | getManufacturerLabel (r : RequestOperands)
  /-- GET DEVICE_LABEL, key 0x200082 (R145). -/
  | getDeviceLabel (r : RequestOperands)
  /-- SET DEVICE_LABEL, key 0x300082 (R146). -/
  | setDeviceLabel (r : RequestOperands)
  /-- GET SOFTWARE_VERSION_LABEL, key 0x2000C0 (R144). -/
  | getSoftwareVersionLabel (r : RequestOperands)
  /-- GET IDENTIFY_DEVICE, key 0x201000 (R147). -/
  | getIdentifyDevice (r : RequestOperands)
  /-- SET IDENTIFY_DEVICE, key 0x301000 (R148). -/
  | setIdentifyDevice (r : RequestOperands)
  deriving DecidableEq, Repr

end Sys2Proof
end

