-- ==== Sys2Proof/Machine/Operands.lean ====
section
/-! DEFINITION. The operand forms: the operand checks of R9 and R58, the header slots as fields and
back (R59, R60), and the dispatch key (R71). -/

namespace Sys2Proof

/-! ## Operand checks (R58). An operation whose operands break them is refused (R155). -/

/-- R9: the constraints on the operand of INIT. The all-devices UID has device ID 0xFFFFFFFF too, so
the one test on the device ID excludes both forms. -/
def cfgValid (c : Cfg) : Bool :=
  deviceId c.ownUid != 0xFFFFFFFF
    && decide (c.supportedPids.length ≤ supportedPidsMax)
    && decide (c.modelDescription.length ≤ labelMax)
    && decide (c.manufacturerLabel.length ≤ labelMax)
    && decide (c.softwareVersionLabel.length ≤ labelMax)
    && decide (c.defaultDeviceLabel.length ≤ labelMax)

/-- R58: VERIFY_CHECKSUM requires `len(buf) >= length` and `length <= 257`. -/
def checksumOperandsOk (buf : List Byte) (length : Nat) : Bool :=
  decide (length ≤ buf.length) && decide (length ≤ maxFrame)

/-- R58: HANDLE_REQUEST requires `len(pd) = pd_len` and `pd_len <= 231`; its third condition,
`len(hdr) = 24`, is `headerOfBytes`'s. -/
def paramDataOk (pd : List Byte) (pdLen : Nat) : Bool :=
  decide (pd.length = pdLen) && decide (pdLen ≤ maxPdl)

/-! ## The header (R59, R60) -/

/-- R60: the fields of the 24 header slots; none where `len(hdr) ≠ 24` (R58). -/
def headerOfBytes (h : List Byte) : Option RequestHeader :=
  if h.length = hdrLen then
    some
      { startCode    := slot h 0
        subStartCode := slot h 1
        msgLen       := slot h 2
        dest         := BitVec.ofNat 48 (fromBe (slice h 3 6))
        src          := BitVec.ofNat 48 (fromBe (slice h 9 6))
        tn           := slot h 15
        portId       := slot h 16
        msgCount     := slot h 17
        subDevice    := BitVec.ofNat 16 (fromBe (slice h 18 2))
        cc           := slot h 20
        pid          := BitVec.ofNat 16 (fromBe (slice h 21 2))
        pdl          := slot h 23 }
  else none

/-- R59: the header slots of a request with these fields. -/
def headerBytes (h : RequestHeader) : List Byte :=
  [h.startCode, h.subStartCode, h.msgLen] ++ be48 h.dest ++ be48 h.src
    ++ [h.tn, h.portId, h.msgCount] ++ be16 h.subDevice ++ [h.cc] ++ be16 h.pid ++ [h.pdl]

/-- The header of a request kind's operands under the command class and PID of the kind. -/
def operandsHeader (r : RequestOperands) (cc : Byte) (pid : Word16) : RequestHeader :=
  { startCode := r.startCode, subStartCode := r.subStartCode, msgLen := r.msgLen
    dest := r.dest, src := r.src, tn := r.tn, portId := r.portId, msgCount := r.msgCount
    subDevice := r.subDevice, cc := cc, pid := pid, pdl := r.pdl }

/-- The operands of a request kind, from a header and the parameter data of HANDLE_REQUEST. -/
def operandsOfHeader (h : RequestHeader) (pd : List Byte) (pdLen : Nat) : RequestOperands :=
  { startCode := h.startCode, subStartCode := h.subStartCode, msgLen := h.msgLen
    dest := h.dest, src := h.src, tn := h.tn, portId := h.portId, msgCount := h.msgCount
    subDevice := h.subDevice, pdl := h.pdl, pd := pd, pdLen := pdLen }

/-! ## The dispatch key (R71) -/

/-- R71: `key = (cc << 16) | pid`. -/
def dispatchKey (cc : Byte) (pid : Word16) : Key := (cc.setWidth 24 <<< 16) ||| pid.setWidth 24

/-- The twelve keys of the dispatch table (R76). -/
def requestKeys : List Key :=
  [0x100001, 0x100002, 0x100003, 0x200050, 0x200060, 0x200080, 0x200081, 0x200082, 0x300082,
   0x2000C0, 0x201000, 0x301000]

/-- R76, R77: whether the header's key is a row of the dispatch table. -/
def selectsRow (hdr : List Byte) : Bool :=
  match headerOfBytes hdr with
  | some h => requestKeys.contains (dispatchKey h.cc h.pid)
  | none => false

end Sys2Proof
end

