-- ==== Sys2Proof/WellFormed.lean ====
section
/-! DEFINITION. Which instructions are well formed: the operand conditions of R9 and R58, and, for
HANDLE_REQUEST, that a request whose key is a row of R76 is written with the constructor of that
row, so that every operand bundle has one reading. -/

namespace Sys2Proof

/-- R58: the operands meet the interface's conditions. The condition `!selectsRow hdr` is no
condition of R58 (log entry 5): HANDLE_REQUEST has its meaning on those headers too. -/
def wellFormed : Instr → Bool
  | .init cfg _ => cfgValid cfg
  | .verifyChecksum buf length => checksumOperandsOk buf length
  | .requiresAction _ => true
  | .handleRequest hdr pd pdLen =>
      decide (hdr.length = hdrLen) && paramDataOk pd pdLen && !selectsRow hdr
  | .isMuted => true
  | .discUniqueBranch r => paramDataOk r.pd r.pdLen
  | .discMute r => paramDataOk r.pd r.pdLen
  | .discUnMute r => paramDataOk r.pd r.pdLen
  | .getSupportedParameters r => paramDataOk r.pd r.pdLen
  | .getDeviceInfo r => paramDataOk r.pd r.pdLen
  | .getDeviceModelDescription r => paramDataOk r.pd r.pdLen
  | .getManufacturerLabel r => paramDataOk r.pd r.pdLen
  | .getDeviceLabel r => paramDataOk r.pd r.pdLen
  | .setDeviceLabel r => paramDataOk r.pd r.pdLen
  | .getSoftwareVersionLabel r => paramDataOk r.pd r.pdLen
  | .getIdentifyDevice r => paramDataOk r.pd r.pdLen
  | .setIdentifyDevice r => paramDataOk r.pd r.pdLen

end Sys2Proof
end

