-- ==== Sys2Proof/Decode.lean ====
section
/-! DEFINITION. The decoder of the two levels of R56 and, after it, the encoder, the request frame on
the wire (R59, R72) and the request notation (R83, R84).

Level 1 is the select `OP[2:0]` (R57); level 2, under HANDLE_REQUEST only, is the dispatch key
`(cc << 16) | pid` in slots 20..22 of the header (R71, R76). -/

namespace Sys2Proof

/-- Why the decoder refuses a bundle. -/
inductive DecodeError where
  /-- The selects 101, 110 and 111 are reserved (R81). -/
  | reservedSelect (op : BitVec 3)
  deriving DecidableEq, Repr

/-! ## The decoder -/

/-- R76: the rows of the dispatch table as constructors. -/
def requestTable : List (Key × (RequestOperands → Instr)) :=
  [(0x100001, .discUniqueBranch),
   (0x100002, .discMute),
   (0x100003, .discUnMute),
   (0x200050, .getSupportedParameters),
   (0x200060, .getDeviceInfo),
   (0x200080, .getDeviceModelDescription),
   (0x200081, .getManufacturerLabel),
   (0x200082, .getDeviceLabel),
   (0x300082, .setDeviceLabel),
   (0x2000C0, .getSoftwareVersionLabel),
   (0x201000, .getIdentifyDevice),
   (0x301000, .setIdentifyDevice)]

/-- R77: the row whose key is equal on all 24 bits. -/
def requestOfKey (key : Key) : Option (RequestOperands → Instr) := requestTable.lookup key

/-- Level 2: the request kind that the header selects; a request that selects none (R77, R79), or
whose header is not 24 bytes long, is plain HANDLE_REQUEST. -/
def decodeRequest (hdr pd : List Byte) (pdLen : Nat) : Instr :=
  match headerOfBytes hdr with
  | none => .handleRequest hdr pd pdLen
  | some h =>
    match requestOfKey (dispatchKey h.cc h.pid) with
    | none => .handleRequest hdr pd pdLen
    | some kind => kind (operandsOfHeader h pd pdLen)

/-- Level 1 (R57); the reserved selects are refused by name (R81). -/
def decode (b : OpBundle) : Except DecodeError Instr :=
  match b.op.toNat with
  | 0 => .ok (.init b.cfg b.sendPresent)
  | 1 => .ok (.verifyChecksum b.buf b.length)
  | 2 => .ok (.requiresAction b.dest)
  | 3 => .ok (decodeRequest b.hdr b.pd b.pdLen)
  | 4 => .ok .isMuted
  | _ => .error (.reservedSelect b.op)

/-! ## The encoder -/

/-- A configuration record of zeros and empty strings. -/
def zeroCfg : Cfg :=
  { ownUid := 0, identifyCh := 0, identifyBit := 0, muteCh := 0, muteBit := 0
    deviceInfo :=
      { modelId := 0, productCategory := 0, softwareVersionId := 0, dmxFootprint := 0
        personalityCurrent := 0, personalityCount := 0, dmxStartAddress := 0, sensorCount := 0 }
    supportedPids := [], modelDescription := [], manufacturerLabel := []
    softwareVersionLabel := [], defaultDeviceLabel := [] }

/-- A bundle with this select and every operand zero or empty. -/
def zeroBundle (op : BitVec 3) : OpBundle :=
  { op := op, cfg := zeroCfg, sendPresent := false, buf := [], length := 0, dest := 0
    hdr := List.replicate hdrLen 0, pd := [], pdLen := 0 }

/-- HANDLE_REQUEST (OP = 011) with this header and parameter data. -/
def requestBundle (hdr pd : List Byte) (pdLen : Nat) : OpBundle :=
  { zeroBundle 3 with hdr := hdr, pd := pd, pdLen := pdLen }

/-- A request kind: HANDLE_REQUEST with the kind's command class and PID in slots 20..22. -/
def kindBundle (r : RequestOperands) (cc : Byte) (pid : Word16) : OpBundle :=
  requestBundle (headerBytes (operandsHeader r cc pid)) r.pd r.pdLen

/-- R57, R76: the operand bundle of an instruction; operands the operation does not read are zero. -/
def encode : Instr → OpBundle
  | .init cfg sendPresent => { zeroBundle 0 with cfg := cfg, sendPresent := sendPresent }
  | .verifyChecksum buf length => { zeroBundle 1 with buf := buf, length := length }
  | .requiresAction dest => { zeroBundle 2 with dest := dest }
  | .handleRequest hdr pd pdLen => requestBundle hdr pd pdLen
  | .isMuted => zeroBundle 4
  | .discUniqueBranch r => kindBundle r ccDiscovery pidDiscUniqueBranch
  | .discMute r => kindBundle r ccDiscovery pidDiscMute
  | .discUnMute r => kindBundle r ccDiscovery pidDiscUnMute
  | .getSupportedParameters r => kindBundle r ccGet pidSupportedParameters
  | .getDeviceInfo r => kindBundle r ccGet pidDeviceInfo
  | .getDeviceModelDescription r => kindBundle r ccGet pidDeviceModelDescription
  | .getManufacturerLabel r => kindBundle r ccGet pidManufacturerLabel
  | .getDeviceLabel r => kindBundle r ccGet pidDeviceLabel
  | .setDeviceLabel r => kindBundle r ccSet pidDeviceLabel
  | .getSoftwareVersionLabel r => kindBundle r ccGet pidSoftwareVersionLabel
  | .getIdentifyDevice r => kindBundle r ccGet pidIdentifyDevice
  | .setIdentifyDevice r => kindBundle r ccSet pidIdentifyDevice

/-! ## The rows of spec/opcode_table.json as words -/

/-- The bundle of a table row's word: a row of up to 8 bits is the select `OP[2:0]` (R57); a row of
up to 24 bits is a dispatch key, bits [23:16] in slot 20, [15:8] in slot 21 and [7:0] in slot 22 of
a HANDLE_REQUEST (R59, R71); every other operand bit is 0. None where `w` has more bits. -/
def tableBundle (nbits w : Nat) : Option OpBundle :=
  if nbits ≤ 8 then
    if w < 8 then some (zeroBundle (BitVec.ofNat 3 w)) else none
  else if nbits ≤ 24 then
    if w < 16777216 then
      some (requestBundle
        (List.replicate 20 0
          ++ [BitVec.ofNat 8 (w / 65536), BitVec.ofNat 8 (w / 256), BitVec.ofNat 8 w, 0]) [] 0)
    else none
  else none

/-- The instruction the decoder reads from a word numbered as spec/opcode_table.json numbers it. -/
def decodeTableWord (nbits w : Nat) : Option Instr :=
  match tableBundle nbits w with
  | none => none
  | some b =>
    match decode b with
    | .ok i => some i
    | .error _ => none

/-! ## The request frame on the wire (R59, R72) -/

/-- R59: the frame of a request, its checksum over slots 0 .. 23+PDL appended big-endian. -/
def requestFrame (h : RequestHeader) (pd : List Byte) : List Byte :=
  headerBytes h ++ pd ++ be16 (checksum16 (headerBytes h ++ pd))

/-- R72: the length of a frame, from slot 23 (PDL). -/
def frameLength (frame : List Byte) : Nat := minFrame + (slot frame 23).toNat

/-- R40, R83 (`REQ`): HANDLE_REQUEST gets slots 0..23 as `hdr` and slots 24 .. 23+PDL as `pd`; the two
checksum slots are not passed. None for a byte sequence that is not `26 + PDL` bytes long. -/
def bundleOfFrame (frame : List Byte) : Option OpBundle :=
  if minFrame ≤ frame.length ∧ frame.length = frameLength frame then
    some (requestBundle (slice frame 0 hdrLen) (slice frame hdrLen (slot frame 23).toNat)
      (slot frame 23).toNat)
  else none

/-- R83 (`CHECK <bytes> len=<n>`). -/
def checkBundle (bytes : List Byte) (length : Nat) : OpBundle :=
  { zeroBundle 1 with buf := bytes, length := length }

/-! ## Request notation (R83) and pseudo-requests (R84) -/

/-- R83: what one written request assembles to, less command class and PID: the start codes, the
computed MESSAGE_LENGTH and PDL, MESSAGE_COUNT 0. -/
def assembleRequest (dest src : Uid) (tn portId : Byte) (subDevice : Word16) (pd : List Byte) :
    RequestOperands :=
  { startCode := startCodeValue, subStartCode := subStartCodeValue
    msgLen := BitVec.ofNat 8 (hdrLen + pd.length), dest := dest, src := src, tn := tn
    portId := portId, msgCount := 0, subDevice := subDevice, pdl := BitVec.ofNat 8 pd.length
    pd := pd, pdLen := pd.length }

/-- R84: `MUTE -> d`. -/
def pseudoMute (dest src : Uid) (tn portId : Byte) (subDevice : Word16) : Instr :=
  .discMute (assembleRequest dest src tn portId subDevice [])

/-- R84: `UNMUTE -> d`. -/
def pseudoUnMute (dest src : Uid) (tn portId : Byte) (subDevice : Word16) : Instr :=
  .discUnMute (assembleRequest dest src tn portId subDevice [])

/-- R84: `DUB lo hi -> d`; R64: the lower bound precedes the upper bound. -/
def pseudoDub (lo hi dest src : Uid) (tn portId : Byte) (subDevice : Word16) : Instr :=
  .discUniqueBranch (assembleRequest dest src tn portId subDevice (be48 lo ++ be48 hi))

/-- R84: `IDENTIFY v -> d`. -/
def pseudoIdentify (v : Byte) (dest src : Uid) (tn portId : Byte) (subDevice : Word16) : Instr :=
  .setIdentifyDevice (assembleRequest dest src tn portId subDevice [v])

/-- R84: `LABEL "s" -> d`. -/
def pseudoLabel (label : List Byte) (dest src : Uid) (tn portId : Byte) (subDevice : Word16) :
    Instr :=
  .setDeviceLabel (assembleRequest dest src tn portId subDevice label)

end Sys2Proof
end

