-- ==== Sys2Proof/Machine/State.lean ====
section
/-! DEFINITION. The state of the block (R17): the configuration registers, the protocol state, the
transient state of one HANDLE_REQUEST, the outputs, and the operations the host presents; the
reasons a step can stop; the state at power-on (R36). -/

namespace Sys2Proof.Machine

/-- The stage of the dispatch FSM (R16). -/
inductive Stage where
  | idle | decode | addressGate | subdeviceCheck | dispatch | replyPolicy | transport
  deriving DecidableEq, Repr

/-- The address class of a destination UID (R30, R93). -/
inductive AddressClass where
  | unicast | allDevices | vendorcastOwn | other
  deriving DecidableEq, Repr

/-- The request view (R30). -/
structure RequestView where
  msgLen    : Byte
  dest      : Uid
  src       : Uid
  tn        : Byte
  portId    : Byte
  msgCount  : Byte
  subDevice : Word16
  cc        : Byte
  pid       : Word16
  pdl       : Byte
  payload   : List Byte
  aclass    : AddressClass
  deriving DecidableEq, Repr

/-- One entry of the event trace (R12, R31). -/
inductive Event where
  /-- One call of `port_set` (R169). -/
  | portSet (ch : PortChannel) (bit : PortBit)
  /-- One call of `port_clear` (R169). -/
  | portClear (ch : PortChannel) (bit : PortBit)
  /-- One call of the send capability (R170). -/
  | send (includeBreak : Bool) (segments : List (List Byte)) (segmentCount : Byte)
  deriving DecidableEq, Repr

/-- What a handler returns (R126). -/
inductive HandlerResult where
  | ack (data : List Byte)
  | nack (reason : Word16)
  | dub (bytes : List Byte)
  | silent
  deriving DecidableEq, Repr

/-- What the reply policy hands to the transport stage (R120). -/
inductive Reply where
  /-- NONE. -/
  | noReply
  /-- A standard frame, sent with a break. -/
  | standard (frame : List Byte)
  /-- The DUB response, sent without a break. -/
  | raw (bytes : List Byte)
  deriving DecidableEq, Repr

/-- The transient state of one HANDLE_REQUEST (R17, R34): it holds nothing between transactions. -/
structure Transaction where
  stage : Stage
  /-- The header buffer of the request (R27). -/
  hdr   : Option (List Byte)
  /-- The parameter data of the request (R27). -/
  pd    : Option (List Byte)
  /-- The request view (R30). -/
  view  : Option RequestView
  /-- The response buffer (R28). -/
  rsp   : Option (List Byte)
  /-- The DUB response buffer (R29). -/
  dub   : Option (List Byte)
  deriving DecidableEq, Repr

/-- No transaction: the stage is IDLE and no buffer exists (R16, R34, R36). -/
def Transaction.idle : Transaction :=
  { stage := .idle, hdr := none, pd := none, view := none, rsp := none, dub := none }

/-- The state of the block. -/
structure State where
  /-- R26. -/
  initialized : Bool
  /-- The configuration registers (R18 to R21). -/
  cfg         : Cfg
  /-- R22. -/
  sendPresent : Bool
  /-- R23. -/
  muted       : Bool
  /-- R24. -/
  identifyOn  : Bool
  /-- R25: the bytes up to the register's length (log entry 6). -/
  deviceLabel : List Byte
  /-- R16, R27 to R30. -/
  txn         : Transaction
  /-- The event trace, oldest first (R31). -/
  events      : List Event
  /-- The value the last operation returned (R57, R173), none where it returns nothing. -/
  result      : Option Bool
  /-- The model's own field: the operations the host presents, next first (log entry 1). -/
  input       : List OpBundle
  deriving DecidableEq, Repr

/-- Why the machine stops with a fault: the source's "defensive assertions" (R162, R165). A fault is
sticky and never final; neither is reachable from an admitted operation in a state INIT has set up. -/
inductive Fault where
  /-- Raised by `buildStandard` for more than 231 bytes of data (R111). Safe. -/
  | pdOverflow
  /-- Raised by `memRead` for a read outside the buffer (R11). Safe. -/
  | readOutOfBounds
  deriving DecidableEq, Repr

/-- Why the model gives an operation no meaning (R155). Each refusal is the spec's own and safe: no
claim about such a run is admitted. -/
inductive Refusal where
  /-- Raised by `exec` for an instruction that has no meaning yet; no arm uses it. Safe. -/
  | notModelled (mnemonic : String)
  /-- Raised by every operation but INIT while `initialized = 0` (R26, R155, U1). Safe. -/
  | notInitialized
  /-- Raised by every operation while another is in progress (R180, U11). Safe. -/
  | operationInProgress
  /-- Raised by `step` for a reserved operation select (R81, R155, U2). Safe. -/
  | reservedSelect (op : BitVec 3)
  /-- Raised by INIT for a record that breaks R9 (R155, U3). Safe. -/
  | invalidConfiguration
  /-- Raised by VERIFY_CHECKSUM for operands that break R58 (R155, U4). Safe. -/
  | checksumOperands
  /-- Raised by HANDLE_REQUEST for operands that break R58 (R155, U4). Safe. -/
  | requestOperands
  deriving DecidableEq, Repr

/-- Power-on (R36, R176): `initialized = 0`, `stage = IDLE`, the trace empty. Every other register is
unspecified there and unobservable; the values are named in log entry 2 (DESIGN CHOICE). -/
def State.reset : State :=
  { initialized := false
    cfg         := zeroCfg
    sendPresent := false
    muted       := false
    identifyOn  := false
    deviceLabel := []
    txn         := Transaction.idle
    events      := []
    result      := none
    input       := [] }

end Sys2Proof.Machine
end

