-- ==== Sys2Proof/Machine/Ops.lean ====
section
/-! DEFINITION. The named operations over the state that every operation of the block shares: the
trace, the transient state of a transaction, guarded buffer reads, and the conditions under which an
operation is admitted (R155, R180).

The block takes no exceptions: no condition transfers control, saves state or changes a mode, and
there is no return from one (R158, R167). What an error does instead is one shared operation each:
a drop is `State.finish`, a NACK is a `HandlerResult` that the reply policy turns into a frame
(Machine/Fsm.lean), an internal fault is `Fault`, a refusal is `Refusal`. -/

namespace Sys2Proof.Machine

/-- The outcome of an operation. -/
abbrev Run := Host.Outcome State Fault Refusal

/-! ## The trace and the results -/

/-- R31: append one event to the trace. -/
def State.emit (s : State) (e : Event) : State := { s with events := s.events ++ [e] }

/-- R57: the value an operation returns, none where it returns nothing. -/
def State.returning (s : State) (r : Option Bool) : State := { s with result := r }

/-! ## The transient state of a transaction (R16, R27 to R30) -/

/-- Stage DECODE with the host's buffers borrowed (R27, R113). -/
def State.beginRequest (s : State) (hdr pd : List Byte) : State :=
  { s with txn := { Transaction.idle with stage := .decode, hdr := some hdr, pd := some pd } }

/-- The FSM enters a stage (R16). -/
def State.enter (s : State) (st : Stage) : State := { s with txn := { s.txn with stage := st } }

/-- The decoder writes the view (R100). -/
def State.setView (s : State) (v : RequestView) : State :=
  { s with txn := { s.txn with view := some v } }

/-- The encoder fills the response buffer (R28, R110) or the DUB buffer (R29). -/
def State.holdReply (s : State) : Reply → State
  | .noReply => s
  | .standard frame => { s with txn := { s.txn with rsp := some frame } }
  | .raw bytes => { s with txn := { s.txn with dub := some bytes } }

/-- The end of a HANDLE_REQUEST: `stage` returns to IDLE, nothing transient is kept (R16, R34), and
nothing is returned (R57: events only). -/
def State.finish (s : State) : State := { s with txn := Transaction.idle, result := none }

/-! ## Registers -/

/-- R146: the label register takes the bytes as given. -/
def State.setDeviceLabel (s : State) (label : List Byte) : State := { s with deviceLabel := label }

/-- R152: what INIT writes, every persistent register at once; no event (R153). -/
def State.initialise (s : State) (cfg : Cfg) (sendPresent : Bool) : State :=
  { s with
    initialized := true
    cfg := cfg
    sendPresent := sendPresent
    muted := false
    identifyOn := false
    deviceLabel := cfg.defaultDeviceLabel }

/-! ## Buffers -/

/-- `MemRead(buf, i, n)` (R11): a read outside the buffer is an internal fault. -/
def memRead (buf : List Byte) (i n : Nat) : Except Fault (List Byte) :=
  if i + n ≤ buf.length then .ok (slice buf i n) else .error .readOutOfBounds

/-! ## Admission -/

/-- R180, U11: an operation starts only when no other is in progress. -/
def whenIdle (s : State) (k : Run) : Run :=
  if s.txn.stage = .idle then k else .refused .operationInProgress

/-- R26, R155: every operation but INIT needs `initialized = 1`. -/
def whenReady (s : State) (k : Run) : Run :=
  whenIdle s (if s.initialized then k else .refused .notInitialized)

end Sys2Proof.Machine
end

