-- ==== Sys2Proof/Machine/Addressing.lean ====
section
/-! DEFINITION. The address filter (R93) and REQUIRES_ACTION. -/

namespace Sys2Proof.Machine

/-- R93: the address class, in the order of the rule's tests. -/
def addressClass (dest own : Uid) : AddressClass :=
  if dest = own then .unicast
  else if dest = uidAll then .allDevices
  else if deviceId dest = 0xFFFFFFFF ∧ manufacturerId dest = manufacturerId own then .vendorcastOwn
  else .other

/-- R94. -/
def requiresAction (dest own : Uid) : Bool := addressClass dest own != .other

/-- REQUIRES_ACTION (R94); `own_uid` is the register. -/
def execRequiresAction (dest : Uid) (s : State) : Run :=
  whenReady s (.next (s.returning (some (requiresAction dest s.cfg.ownUid))))

end Sys2Proof.Machine
end

