-- ==== Sys2Proof/Machine/Checksum.lean ====
section
/-! DEFINITION. The checksum validator (R88) and VERIFY_CHECKSUM. -/

namespace Sys2Proof.Machine

/-- R88: the validator; the length is tested before the buffer is read. -/
def verifyChecksum (buf : List Byte) (length : Nat) : Except Fault Bool :=
  if length < minFrame then .ok false
  else
    match memRead buf 0 (length - 2), memRead buf (length - 2) 2 with
    | .ok window, .ok trailer => .ok (checksum16 window == BitVec.ofNat 16 (fromBe trailer))
    | .error f, _ => .error f
    | _, .error f => .error f

/-- VERIFY_CHECKSUM (R88, R92); operands that break R58 are refused (R155). -/
def execVerifyChecksum (buf : List Byte) (length : Nat) (s : State) : Run :=
  whenReady s
    (if checksumOperandsOk buf length then
      match verifyChecksum buf length with
      | .ok b => .next (s.returning (some b))
      | .error f => .fault f
    else .refused .checksumOperands)

end Sys2Proof.Machine
end

