-- ==== Sys2Proof/Machine/Control.lean ====
section
/-! DEFINITION. The control operations INIT (R152) and IS_MUTED (R154). -/

namespace Sys2Proof.Machine

/-- INIT (R152, R153, R156): admitted before and after the first INIT; a record that breaks R9 is
refused (R155); it emits no event and keeps the trace. -/
def execInit (cfg : Cfg) (sendPresent : Bool) (s : State) : Run :=
  whenIdle s
    (if cfgValid cfg then .next ((s.initialise cfg sendPresent).returning none)
     else .refused .invalidConfiguration)

/-- IS_MUTED (R154). -/
def execIsMuted (s : State) : Run := whenReady s (.next (s.returning (some s.muted)))

end Sys2Proof.Machine
end

