-- ==== Sys2Proof/Machine/Codec.lean ====
section
/-! DEFINITION. The frame decoder (R99, R100) and the frame encoder (R103 to R109). -/

namespace Sys2Proof.Machine

/-- R99: the consistency checks of stage DECODE; a request that fails one is dropped. -/
def decodeCheck (h : RequestHeader) (pdLen : Nat) : Bool :=
  h.startCode == startCodeValue
    && h.subStartCode == subStartCodeValue
    && h.pdl.toNat == pdLen
    && h.msgLen.toNat == hdrLen + h.pdl.toNat

/-- R100: the request view. -/
def decodeView (h : RequestHeader) (pd : List Byte) (own : Uid) : RequestView :=
  { msgLen := h.msgLen, dest := h.dest, src := h.src, tn := h.tn, portId := h.portId
    msgCount := h.msgCount, subDevice := h.subDevice, cc := h.cc, pid := h.pid, pdl := h.pdl
    payload := pd, aclass := addressClass h.dest own }

/-- R103, R104: slots 0 .. 23+n of a standard frame, before its checksum. -/
def standardBody (v : RequestView) (rtype : Byte) (data : List Byte) : List Byte :=
  [startCodeValue, subStartCodeValue, BitVec.ofNat 8 (hdrLen + data.length)]
    ++ be48 v.src ++ be48 v.dest
    ++ [v.tn, rtype, 0x00]
    ++ be16 v.subDevice
    ++ [v.cc + 1]
    ++ be16 v.pid
    ++ [BitVec.ofNat 8 data.length]
    ++ data

/-- `BuildStandard` (R103), with the checksum of R89; more than 231 bytes of data is an internal
fault (R111). -/
def buildStandard (v : RequestView) (rtype : Byte) (data : List Byte) : Except Fault (List Byte) :=
  if data.length ≤ maxPdl then
    .ok (standardBody v rtype data ++ be16 (checksum16 (standardBody v rtype data)))
  else .error .pdOverflow

/-- R105. -/
def buildAck (v : RequestView) (data : List Byte) : Except Fault (List Byte) :=
  buildStandard v rtAck data

/-- R106. -/
def buildNack (v : RequestView) (reason : Word16) : Except Fault (List Byte) :=
  buildStandard v rtNackReason (be16 reason)

/-- R107: the builder exists and no handler of the table uses it (R80). -/
def buildAckTimer (v : RequestView) (delay : Word16) : Except Fault (List Byte) :=
  buildStandard v rtAckTimer (be16 delay)

end Sys2Proof.Machine
end

