-- ==== Sys2Proof/Machine/Flags.lean ====
section
/-! DEFINITION. The two flags of the block (R33), `muted` and `identify_on`, with their port drivers:
each setter writes its flag and makes its port call as one step (R54), on every call and not only
when the flag changes (R185). There are no condition codes. -/

namespace Sys2Proof.Machine

/-- `SetMuted` (R129). -/
def State.setMuted (s : State) (v : Bool) : State :=
  { s with muted := v }.emit
    (if v then .portSet s.cfg.muteCh s.cfg.muteBit else .portClear s.cfg.muteCh s.cfg.muteBit)

/-- `SetIdentify` (R149). -/
def State.setIdentify (s : State) (v : Bool) : State :=
  { s with identifyOn := v }.emit
    (if v then .portSet s.cfg.identifyCh s.cfg.identifyBit
     else .portClear s.cfg.identifyCh s.cfg.identifyBit)

end Sys2Proof.Machine
end

