-- ==== Sys2Proof/Machine/Fsm.lean ====
section
/-! DEFINITION. The stages of HANDLE_REQUEST (R113) around its handler: decode, address gate,
sub-device check, reply policy, transport. The handler of stage DISPATCH is an argument: the table's
lookup for HANDLE_REQUEST itself (Machine/HandleRequest.lean), the row's own handler for a request
kind. -/

namespace Sys2Proof.Machine

/-- R126: a handler reads the view and the registers, may write `muted`, `identify_on` or
`device_label` and emit port events, and returns one result. -/
abbrev Handler := RequestView → State → Except Fault (HandlerResult × State)

/-- R116: the sub-device check, and stage DISPATCH behind it. -/
def checkAndDispatch (dispatch : Handler) (v : RequestView) (s : State) :
    Except Fault (HandlerResult × State) :=
  if v.subDevice = 0 then dispatch v (s.enter .dispatch)
  else .ok (.nack nrSubDeviceOutOfRange, s)

/-- `POLICY` (R120). An ACK or NACK is sent to a unicast destination only; under suppression the
encoder is not run. No request of class OTHER gets here (R115). -/
def replyPolicy (v : RequestView) : HandlerResult → Except Fault Reply
  | .ack data => if v.aclass = .unicast then (buildAck v data).map .standard else .ok .noReply
  | .nack reason => if v.aclass = .unicast then (buildNack v reason).map .standard else .ok .noReply
  | .dub bytes => .ok (.raw bytes)
  | .silent => .ok .noReply

/-- `TRANSPORT` (R122): one Send of one segment, with a break for a standard frame, without for the
DUB response; none where no send capability is bound (R123). -/
def transport (s : State) : Reply → State
  | .noReply => s
  | .standard frame => if s.sendPresent then s.emit (.send true [frame] 1) else s
  | .raw bytes => if s.sendPresent then s.emit (.send false [bytes] 1) else s

/-- Stages REPLY_POLICY and TRANSPORT, and the end of the transaction (R113). -/
def replyAndFinish (v : RequestView) (result : HandlerResult) (s : State) : Run :=
  match replyPolicy v result with
  | .error f => .fault f
  | .ok reply =>
    .next (transport (((s.enter .replyPolicy).holdReply reply).enter .transport) reply).finish

/-- Stages SUBDEVICE_CHECK to TRANSPORT, for a request that passed the gate (R113). -/
def deliver (dispatch : Handler) (v : RequestView) (s : State) : Run :=
  match checkAndDispatch dispatch v (s.enter .subdeviceCheck) with
  | .error f => .fault f
  | .ok (result, s') => replyAndFinish v result s'

/-- Stage ADDRESS_GATE (R115), after the decoder's view (R100). -/
def gate (dispatch : Handler) (v : RequestView) (s : State) : Run :=
  if v.aclass = .other then .next ((s.setView v).enter .addressGate).finish
  else deliver dispatch v ((s.setView v).enter .addressGate)

/-- `HANDLE_REQUEST` (R113) on a header, with the handler of stage DISPATCH: refused operands (R58,
R155), stage DECODE (R114), and the stages after it. -/
def transact (h : RequestHeader) (pd : List Byte) (pdLen : Nat) (dispatch : Handler) (s : State) :
    Run :=
  whenReady s
    (if paramDataOk pd pdLen then
      if decodeCheck h pdLen then
        gate dispatch (decodeView h pd s.cfg.ownUid) (s.beginRequest (headerBytes h) pd)
      else .next (s.beginRequest (headerBytes h) pd).finish
    else .refused .requestOperands)

end Sys2Proof.Machine
end

