-- ==== Sys2Proof/Machine/Discovery.lean ====
section
/-! DEFINITION. The discovery sub-protocol: DISC_MUTE, DISC_UN_MUTE, DISC_UNIQUE_BRANCH and the DUB
encoder (R127 to R136). -/

namespace Sys2Proof.Machine

/-! ## Mute and UnMute -/

/-- R127. -/
def handleDiscMute : Handler := fun v s =>
  if v.pdl = 0 then .ok (.ack (be16 muteControlField), s.setMuted true)
  else .ok (.nack nrFormatError, s)

/-- R128. -/
def handleDiscUnMute : Handler := fun v s =>
  if v.pdl = 0 then .ok (.ack (be16 muteControlField), s.setMuted false)
  else .ok (.nack nrFormatError, s)

/-! ## Discovery unique branch -/

/-- `IN_RANGE` (R131): unsigned, both bounds inclusive. -/
def inRange (u lower upper : Uid) : Bool :=
  decide (lower.toNat ≤ u.toNat) && decide (u.toNat ≤ upper.toNat)

/-- The pair of a byte in the DUB response (R63, R132). -/
def dubPair (b : Byte) : List Byte := [b ||| 0xAA, b ||| 0x55]

/-- `BuildDUB` (R63, R132), with the checksum over the encoded UID bytes (R91). -/
def buildDub (own : Uid) : List Byte :=
  let uid := (be48 own).flatMap dubPair
  List.replicate 7 0xFE ++ [0xAA] ++ uid ++ (be16 (checksum16 uid)).flatMap dubPair

/-- `H_DUB` (R130): muted before format before range (R164); it writes nothing (R134). -/
def handleDiscUniqueBranch : Handler := fun v s =>
  if s.muted then .ok (.silent, s)
  else if v.pdl = 12 then
    match memRead v.payload 0 6, memRead v.payload 6 6 with
    | .ok lower, .ok upper =>
      if inRange s.cfg.ownUid (BitVec.ofNat 48 (fromBe lower)) (BitVec.ofNat 48 (fromBe upper)) then
        .ok (.dub (buildDub s.cfg.ownUid), s)
      else .ok (.silent, s)
    | .error f, _ => .error f
    | _, .error f => .error f
  else .ok (.silent, s)

/-! ## The instructions -/

/-- DISC_MUTE, key 0x100002 (R127). -/
def execDiscMute (r : RequestOperands) (s : State) : Run :=
  transact (operandsHeader r ccDiscovery pidDiscMute) r.pd r.pdLen handleDiscMute s

/-- DISC_UN_MUTE, key 0x100003 (R128). -/
def execDiscUnMute (r : RequestOperands) (s : State) : Run :=
  transact (operandsHeader r ccDiscovery pidDiscUnMute) r.pd r.pdLen handleDiscUnMute s

/-- DISC_UNIQUE_BRANCH, key 0x100001 (R130). -/
def execDiscUniqueBranch (r : RequestOperands) (s : State) : Run :=
  transact (operandsHeader r ccDiscovery pidDiscUniqueBranch) r.pd r.pdLen handleDiscUniqueBranch s

end Sys2Proof.Machine
end

