-- ==== Sys2Proof/Machine/Parameters.lean ====
section
/-! DEFINITION. The GET and SET parameter handlers and their parameter data (R137 to R149). -/

namespace Sys2Proof.Machine

/-- R137: a GET carries no parameter data; otherwise it is answered with the data and writes
nothing (R150). -/
def handleGet (data : State → List Byte) : Handler := fun v s =>
  if v.pdl = 0 then .ok (.ack (data s), s) else .ok (.nack nrFormatError, s)

/-! ## Parameter data -/

/-- `SUPPORTED_PD` (R139): the list in its order. -/
def supportedPd (pids : List Word16) : List Byte := pids.flatMap be16

/-- `DEVICE_INFO_PD` (R141): 19 bytes. -/
def deviceInfoPd (d : DeviceInfo) : List Byte :=
  be16 rdmProtocolVersion ++ be16 d.modelId ++ be16 d.productCategory ++ be32 d.softwareVersionId
    ++ be16 d.dmxFootprint ++ [d.personalityCurrent, d.personalityCount]
    ++ be16 d.dmxStartAddress ++ be16 rootSubDeviceCount ++ [d.sensorCount]

/-- R147: the byte that GET IDENTIFY_DEVICE returns. -/
def identifyPd (on : Bool) : List Byte := [if on then 0x01 else 0x00]

/-! ## GET handlers -/

/-- R138. -/
def handleGetSupportedParameters : Handler := handleGet fun s => supportedPd s.cfg.supportedPids

/-- R140. -/
def handleGetDeviceInfo : Handler := handleGet fun s => deviceInfoPd s.cfg.deviceInfo

/-- R142: the bytes as configured, no terminator. -/
def handleGetDeviceModelDescription : Handler := handleGet fun s => s.cfg.modelDescription

/-- R143. -/
def handleGetManufacturerLabel : Handler := handleGet fun s => s.cfg.manufacturerLabel

/-- R144. -/
def handleGetSoftwareVersionLabel : Handler := handleGet fun s => s.cfg.softwareVersionLabel

/-- R145: the register's bytes at its current length. -/
def handleGetDeviceLabel : Handler := handleGet fun s => s.deviceLabel

/-- R147: no hardware effect. -/
def handleGetIdentifyDevice : Handler := handleGet fun s => identifyPd s.identifyOn

/-! ## SET handlers -/

/-- R146: the payload's bytes are copied as given; more than 32 is a format error. -/
def handleSetDeviceLabel : Handler := fun v s =>
  if v.pdl.toNat ≤ labelMax then
    match memRead v.payload 0 v.pdl.toNat with
    | .ok label => .ok (.ack [], s.setDeviceLabel label)
    | .error f => .error f
  else .ok (.nack nrFormatError, s)

/-- R148: one port event for every SET; any non-zero byte means on. -/
def handleSetIdentifyDevice : Handler := fun v s =>
  if v.pdl = 1 then
    match memRead v.payload 0 1 with
    | .ok command => .ok (.ack [], s.setIdentify (slot command 0 != 0x00))
    | .error f => .error f
  else .ok (.nack nrFormatError, s)

/-! ## The instructions -/

/-- GET SUPPORTED_PARAMETERS, key 0x200050 (R138). -/
def execGetSupportedParameters (r : RequestOperands) (s : State) : Run :=
  transact (operandsHeader r ccGet pidSupportedParameters) r.pd r.pdLen
    handleGetSupportedParameters s

/-- GET DEVICE_INFO, key 0x200060 (R140). -/
def execGetDeviceInfo (r : RequestOperands) (s : State) : Run :=
  transact (operandsHeader r ccGet pidDeviceInfo) r.pd r.pdLen handleGetDeviceInfo s

/-- GET DEVICE_MODEL_DESCRIPTION, key 0x200080 (R142). -/
def execGetDeviceModelDescription (r : RequestOperands) (s : State) : Run :=
  transact (operandsHeader r ccGet pidDeviceModelDescription) r.pd r.pdLen
    handleGetDeviceModelDescription s

/-- GET MANUFACTURER_LABEL, key 0x200081 (R143). -/
def execGetManufacturerLabel (r : RequestOperands) (s : State) : Run :=
  transact (operandsHeader r ccGet pidManufacturerLabel) r.pd r.pdLen handleGetManufacturerLabel s

/-- GET DEVICE_LABEL, key 0x200082 (R145). -/
def execGetDeviceLabel (r : RequestOperands) (s : State) : Run :=
  transact (operandsHeader r ccGet pidDeviceLabel) r.pd r.pdLen handleGetDeviceLabel s

/-- SET DEVICE_LABEL, key 0x300082 (R146). -/
def execSetDeviceLabel (r : RequestOperands) (s : State) : Run :=
  transact (operandsHeader r ccSet pidDeviceLabel) r.pd r.pdLen handleSetDeviceLabel s

/-- GET SOFTWARE_VERSION_LABEL, key 0x2000C0 (R144). -/
def execGetSoftwareVersionLabel (r : RequestOperands) (s : State) : Run :=
  transact (operandsHeader r ccGet pidSoftwareVersionLabel) r.pd r.pdLen
    handleGetSoftwareVersionLabel s

/-- GET IDENTIFY_DEVICE, key 0x201000 (R147). -/
def execGetIdentifyDevice (r : RequestOperands) (s : State) : Run :=
  transact (operandsHeader r ccGet pidIdentifyDevice) r.pd r.pdLen handleGetIdentifyDevice s

/-- SET IDENTIFY_DEVICE, key 0x301000 (R148). -/
def execSetIdentifyDevice (r : RequestOperands) (s : State) : Run :=
  transact (operandsHeader r ccSet pidIdentifyDevice) r.pd r.pdLen handleSetIdentifyDevice s

end Sys2Proof.Machine
end

