-- ==== Sys2Proof/Machine/HandleRequest.lean ====
section
/-! DEFINITION. Stage DISPATCH of HANDLE_REQUEST, the command-class test and the lookup in the
dispatch table (R76, R117, R118), and HANDLE_REQUEST itself. -/

namespace Sys2Proof.Machine

/-- The dispatch table (R76): exactly twelve keys select a handler. -/
def handlerTable : List (Key × Handler) :=
  [(0x100001, handleDiscUniqueBranch),
   (0x100002, handleDiscMute),
   (0x100003, handleDiscUnMute),
   (0x200050, handleGetSupportedParameters),
   (0x200060, handleGetDeviceInfo),
   (0x200080, handleGetDeviceModelDescription),
   (0x200081, handleGetManufacturerLabel),
   (0x200082, handleGetDeviceLabel),
   (0x300082, handleSetDeviceLabel),
   (0x2000C0, handleGetSoftwareVersionLabel),
   (0x201000, handleGetIdentifyDevice),
   (0x301000, handleSetIdentifyDevice)]

/-- R77: the handler of the row whose key is equal on all 24 bits. -/
def handlerOfKey (key : Key) : Option Handler := handlerTable.lookup key

/-- Stage DISPATCH (R117 to R119): the command-class test comes before the lookup (R164). -/
def dispatchByKey : Handler := fun v s =>
  if supportedCc v.cc then
    match handlerOfKey (dispatchKey v.cc v.pid) with
    | some handler => handler v s
    | none => .ok (.nack nrUnknownPid, s)
  else .ok (.nack nrUnsupportedCommandClass, s)

/-- HANDLE_REQUEST (R113) on any request; a header that is not 24 bytes long is refused (R58,
R155). -/
def execHandleRequest (hdr pd : List Byte) (pdLen : Nat) (s : State) : Run :=
  match headerOfBytes hdr with
  | some h => transact h pd pdLen dispatchByKey s
  | none => whenReady s (.refused .requestOperands)

end Sys2Proof.Machine
end

