-- ==== Sys2Proof/Machine/Dispatch.lean ====
section
/-! DEFINITION. The meaning of every instruction: one arm per constructor of `Instr`. -/

namespace Sys2Proof.Machine

def exec (i : Instr) (s : State) : Host.Outcome State Fault Refusal :=
  match i with
  -- Interface operations (R57).
  | .init cfg sendPresent => Sys2Proof.Machine.execInit cfg sendPresent s
  | .verifyChecksum buf length => Sys2Proof.Machine.execVerifyChecksum buf length s
  | .requiresAction dest => Sys2Proof.Machine.execRequiresAction dest s
  | .handleRequest hdr pd pdLen => Sys2Proof.Machine.execHandleRequest hdr pd pdLen s
  | .isMuted => Sys2Proof.Machine.execIsMuted s
  -- Request kinds: the discovery sub-protocol (R76).
  | .discUniqueBranch r => Sys2Proof.Machine.execDiscUniqueBranch r s
  | .discMute r => Sys2Proof.Machine.execDiscMute r s
  | .discUnMute r => Sys2Proof.Machine.execDiscUnMute r s
  -- Request kinds: parameters (R76).
  | .getSupportedParameters r => Sys2Proof.Machine.execGetSupportedParameters r s
  | .getDeviceInfo r => Sys2Proof.Machine.execGetDeviceInfo r s
  | .getDeviceModelDescription r => Sys2Proof.Machine.execGetDeviceModelDescription r s
  | .getManufacturerLabel r => Sys2Proof.Machine.execGetManufacturerLabel r s
  | .getDeviceLabel r => Sys2Proof.Machine.execGetDeviceLabel r s
  | .setDeviceLabel r => Sys2Proof.Machine.execSetDeviceLabel r s
  | .getSoftwareVersionLabel r => Sys2Proof.Machine.execGetSoftwareVersionLabel r s
  | .getIdentifyDevice r => Sys2Proof.Machine.execGetIdentifyDevice r s
  | .setIdentifyDevice r => Sys2Proof.Machine.execSetIdentifyDevice r s

end Sys2Proof.Machine
end

