-- ==== Sys2Proof/Machine/Fetch.lean ====
section
/-! DEFINITION. How the block comes to its next operation: the host presents one (R51, R175). The
block itself fetches nothing and has no program counter (R16, R55); log entry 1. -/

namespace Sys2Proof.Machine

/-- The operation the host presents next, and the state with that operation taken. -/
def fetch (s : State) : Option (OpBundle × State) :=
  match s.input with
  | [] => none
  | b :: rest => some (b, { s with input := rest })

/-- Put an operation before all that the host presents. -/
def State.present (s : State) (b : OpBundle) : State := { s with input := b :: s.input }

end Sys2Proof.Machine
end

