-- ==== Sys2Proof/Machine/Step.lean ====
section
/-! DEFINITION. One step: one interface operation, an atomic transaction (R13, R186). -/

namespace Sys2Proof.Machine

/-- One step. With no operation presented the block waits and nothing changes (R176, log entry 1);
a reserved select is refused (R81, R155); any other operation is decoded and run to its end. -/
def step (s : State) : Host.Outcome State Fault Refusal :=
  match fetch s with
  | none => .next s
  | some (b, s') =>
    match decode b with
    | .error (.reservedSelect op) => .refused (.reservedSelect op)
    | .ok i => exec i s'

/-- The state in which the host presents, next of all, the operation of a word of
spec/opcode_table.json (log entry 1). Nothing else changes: INIT is not run, so before the first
INIT every other operation is refused (R26, R155). -/
def State.withFetchWord (s : State) (nbits w : Nat) : State :=
  match tableBundle nbits w with
  | some b => s.present b
  | none => s

end Sys2Proof.Machine
end

