-- ==== Sys2Proof/Safety.lean ====
section
/-! DEFINITION. What counts as a safe run, in the terms the claims use: when an operation is
admitted and a request delivered, the invariant every step keeps, the frames the block may send, and
the frame and the Send that the spec's tables give a reply. -/

namespace Sys2Proof.Machine

/-! ## Admission -/

/-- R26, R180: an operation other than INIT is admitted. -/
abbrev Ready (s : State) : Prop := s.initialized = true ∧ s.txn.stage = .idle

/-- R58: HANDLE_REQUEST's operands are well formed, the 24 header bytes given as fields. -/
abbrev OperandsOk (pd : List Byte) (pdLen : Nat) : Prop := pd.length = pdLen ∧ pdLen ≤ 231

/-- R99: the request passes the decoder's consistency checks. -/
abbrev PassesDecode (h : RequestHeader) (pdLen : Nat) : Prop :=
  h.startCode = 0xCC ∧ h.subStartCode = 0x01 ∧ h.pdl.toNat = pdLen ∧
    h.msgLen.toNat = 24 + h.pdl.toNat

/-- R115: the request passes the address gate. -/
abbrev PassesGate (dest : Uid) (s : State) : Prop := addressClass dest s.cfg.ownUid ≠ .other

/-- A request of a kind reaches its handler: well-formed operands (R58), decode (R99), gate (R115),
sub-device 0 (R116). -/
abbrev Delivered (r : RequestOperands) (s : State) : Prop :=
  OperandsOk r.pd r.pdLen ∧ PassesDecode (operandsHeader r 0 0) r.pdLen ∧ PassesGate r.dest s ∧
    r.subDevice = 0

/-! ## Replies, as the tables of R62 and R104 give them -/

/-- R62, R104, R89: a standard frame, slot by slot, and its checksum. -/
def replyFrame (dest src : Uid) (tn rtype : Byte) (subDevice : Word16) (cc : Byte) (pid : Word16)
    (data : List Byte) : List Byte :=
  let body := [0xCC, 0x01, BitVec.ofNat 8 (24 + data.length)] ++ be48 dest ++ be48 src ++
    [tn, rtype, 0x00] ++ be16 subDevice ++ [cc] ++ be16 pid ++ [BitVec.ofNat 8 data.length] ++ data
  body ++ be16 (checksum16 body)

/-- R95, R120, R122, R123: the Send of a standard reply to the request: one frame to the UID that
sent it, with a break, for a unicast destination and a bound send capability; else nothing. -/
def standardSends (s : State) (h : RequestHeader) (rtype : Byte) (data : List Byte) : List Event :=
  if addressClass h.dest s.cfg.ownUid = .unicast ∧ s.sendPresent = true then
    [.send true [replyFrame h.src h.dest h.tn rtype h.subDevice (h.cc + 1) h.pid data] 1]
  else []

/-- R133, R122, R123: the Send of a DUB response: without a break, for every address class. -/
def dubSends (s : State) : List Event :=
  if s.sendPresent = true then [.send false [buildDub s.cfg.ownUid] 1] else []

/-- A completed transaction: `s` with these events appended, nothing transient left (R34), nothing
returned (R57). Everything else is as in `s`. -/
def State.completed (s : State) (es : List Event) : State :=
  { s with events := s.events ++ es, txn := Transaction.idle, result := none }

/-! ## Runs -/

/-- The operations one after the other (R51), up to the first that does not complete. -/
def execAll : List Instr → State → Host.Outcome State Fault Refusal
  | [], s => .next s
  | i :: rest, s =>
    match exec i s with
    | .next t => execAll rest t
    | .fault f => .fault f
    | .refused r => .refused r

/-! ## Which request an instruction presents -/

/-- The dispatch key of the request an instruction presents (R71, R76), none for an operation that
presents none. -/
def keyOf : Instr → Option Key
  | .init _ _ => none
  | .verifyChecksum _ _ => none
  | .requiresAction _ => none
  | .handleRequest hdr _ _ => (headerOfBytes hdr).map fun h => dispatchKey h.cc h.pid
  | .isMuted => none
  | .discUniqueBranch _ => some 0x100001
  | .discMute _ => some 0x100002
  | .discUnMute _ => some 0x100003
  | .getSupportedParameters _ => some 0x200050
  | .getDeviceInfo _ => some 0x200060
  | .getDeviceModelDescription _ => some 0x200080
  | .getManufacturerLabel _ => some 0x200081
  | .getDeviceLabel _ => some 0x200082
  | .setDeviceLabel _ => some 0x300082
  | .getSoftwareVersionLabel _ => some 0x2000C0
  | .getIdentifyDevice _ => some 0x201000
  | .setIdentifyDevice _ => some 0x301000

/-- Whether the instruction is INIT. -/
def isInit : Instr → Bool
  | .init _ _ => true
  | .verifyChecksum _ _ => false
  | .requiresAction _ => false
  | .handleRequest _ _ _ => false
  | .isMuted => false
  | .discUniqueBranch _ => false
  | .discMute _ => false
  | .discUnMute _ => false
  | .getSupportedParameters _ => false
  | .getDeviceInfo _ => false
  | .getDeviceModelDescription _ => false
  | .getManufacturerLabel _ => false
  | .getDeviceLabel _ => false
  | .setDeviceLabel _ => false
  | .getSoftwareVersionLabel _ => false
  | .getIdentifyDevice _ => false
  | .setIdentifyDevice _ => false

/-! ## The trace -/

/-- A call of the send capability, not of the port capability. -/
def Event.isSend : Event → Bool
  | .send _ _ _ => true
  | .portSet _ _ => false
  | .portClear _ _ => false

/-- A standard frame that the block's own checks accept (R112): VERIFY_CHECKSUM returns 1 on the
whole of it, and its header passes the decoder's checks with its own PDL. -/
def standardFrameOk (frame : List Byte) : Prop :=
  verifyChecksum frame frame.length = .ok true ∧
    ∃ h, headerOfBytes (slice frame 0 24) = some h ∧ PassesDecode h (frame.length - 26)

/-- A DUB response for some UID (R63, R132). -/
def dubFrameOk (frame : List Byte) : Prop := ∃ own : Uid, frame = buildDub own

/-- What an entry of the trace may be: a port call, or a Send of one segment (R122) that is a
standard frame with a break or a DUB response without one. -/
def Event.ok : Event → Prop
  | .portSet _ _ => True
  | .portClear _ _ => True
  | .send brk segments count =>
    ∃ frame, segments = [frame] ∧ count = 1 ∧
      (brk = true → standardFrameOk frame) ∧ (brk = false → dubFrameOk frame)

/-! ## The invariant and safety -/

/-- What holds between transactions: no transaction is left open (R16, R34); after INIT the
configuration meets R9 and the label register holds at most 32 bytes (R25); every Send of the trace
is a frame the block may send. -/
def State.Inv (s : State) : Prop :=
  s.txn = Transaction.idle ∧
    (s.initialized = true → cfgValid s.cfg = true ∧ s.deviceLabel.length ≤ 32) ∧
    ∀ e ∈ s.events, e.ok

/-- R162, R165: the next step raises no internal fault. -/
def Safe (s : State) : Prop := ∀ f, step s ≠ .fault f

end Sys2Proof.Machine
end

