-- ==== Sys2Proof/Certificates/Slice0/Obligations.lean ====
section
/-! DEFINITION. The statements for the provers. Each says which rules of spec/ it formalises; a
statement that rests on a choice of the model says so and names the log entry. A whole next state is
written wherever an instruction completes, so its frame is part of the statement. -/

open Sys2Proof Sys2Proof.Machine

/-! ## One step -/

/-- R13, R51: the operation the host presents next is decoded and run as one transaction; the step
adds nothing but taking it off what the host presents (the form of the host's presenting is the
model's, log entry 1). -/
def Obligations.StepRunsTheDecodedOperation : Prop :=
  ∀ (s : State) (b : OpBundle) (rest : List OpBundle) (i : Instr),
    s.input = b :: rest → decode b = .ok i → step s = exec i { s with input := rest }

/-- R81: the reserved selects 101, 110 and 111 are refused. -/
def Obligations.StepRefusesReservedSelects : Prop :=
  ∀ (s : State) (b : OpBundle) (rest : List OpBundle),
    s.input = b :: rest → b.op = 0b101 ∨ b.op = 0b110 ∨ b.op = 0b111 →
    step s = .refused (.reservedSelect b.op)

/-- R176 ("the block waits for an operation"): with nothing presented a step changes nothing. The form
of the wait, a step to the same state, is the model's choice (log entry 1). -/
def Obligations.StepWaitsForAnOperation : Prop :=
  ∀ s : State, s.input = [] → step s = .next s

/-- R180, U11: while a transaction is in progress every operation is refused. That the model refuses
where the spec says the case is outside it is the model's choice (log entry 4). -/
def Obligations.OneOperationAtATime : Prop :=
  ∀ (i : Instr) (s : State), s.txn.stage ≠ .idle → exec i s = .refused .operationInProgress

/-! ## Encoding -/

/-- R59, R60, R76: bundles written out byte by byte from the tables decode to their instructions: the
MUTE of vector V-DISC-01, the unknown PID of R85, an IS_MUTED. The last three clauses are about words,
for two rows of the opcode table and for the reserved select 101, which is no row of it; that such a
word is the select or the dispatch key with every other operand zero is the model's choice
(DESIGN CHOICE, log entry 1). -/
def Obligations.SampleWordsDecode : Prop :=
  decode (requestBundle
      [0xCC, 0x01, 0x18, 0x7A, 0x70, 0x12, 0x34, 0x56, 0x78, 0x12, 0x34, 0x56, 0x78, 0x9A, 0xBC,
       0x02, 0x01, 0x00, 0x00, 0x00, 0x10, 0x00, 0x02, 0x00] [] 0) =
    .ok (.discMute
      { startCode := 0xCC, subStartCode := 0x01, msgLen := 0x18, dest := 0x7A7012345678
        src := 0x123456789ABC, tn := 2, portId := 1, msgCount := 0, subDevice := 0, pdl := 0
        pd := [], pdLen := 0 }) ∧
  decode (requestBundle
      [0xCC, 0x01, 0x18, 0x7A, 0x70, 0x12, 0x34, 0x56, 0x78, 0x12, 0x34, 0x56, 0x78, 0x9A, 0xBC,
       0x00, 0x01, 0x00, 0x00, 0x00, 0x20, 0x1F, 0xFF, 0x00] [] 0) =
    .ok (.handleRequest
      [0xCC, 0x01, 0x18, 0x7A, 0x70, 0x12, 0x34, 0x56, 0x78, 0x12, 0x34, 0x56, 0x78, 0x9A, 0xBC,
       0x00, 0x01, 0x00, 0x00, 0x00, 0x20, 0x1F, 0xFF, 0x00] [] 0) ∧
  decode (zeroBundle 0b100) = .ok .isMuted ∧
  decodeTableWord 8 0b000 = some (.init zeroCfg false) ∧
  decodeTableWord 8 0b101 = none ∧
  decodeTableWord 24 0x301000 = some (.setIdentifyDevice
    { startCode := 0, subStartCode := 0, msgLen := 0, dest := 0, src := 0, tn := 0, portId := 0
      msgCount := 0, subDevice := 0, pdl := 0, pd := [], pdLen := 0 })

/-- R71: `key = (cc << 16) | pid`, and no two pairs share a key. -/
def Obligations.DispatchKeyIsClassAndPid : Prop :=
  ∀ (cc : Byte) (pid : Word16),
    (dispatchKey cc pid).toNat = cc.toNat * 65536 + pid.toNat ∧
    ∀ (cc' : Byte) (pid' : Word16),
      dispatchKey cc pid = dispatchKey cc' pid' → cc = cc' ∧ pid = pid'

/-- R45, R19: a UID is sent as its manufacturer ID and then its device ID, each most significant byte
first, and read back from its six slots it is the same 48-bit value. -/
def Obligations.UidSlots : Prop :=
  ∀ u : Uid,
    be48 u = be16 (manufacturerId u) ++ be32 (deviceId u) ∧
    u.toNat = (manufacturerId u).toNat * 4294967296 + (deviceId u).toNat ∧
    fromBe (be48 u) = u.toNat

/-- R57, R59, R60, R71, R76: for every well-formed instruction, decoding its bundle gives it back. -/
def Obligations.DecodeEncodeAgree : Prop :=
  ∀ i : Instr, wellFormed i = true → decode (encode i) = .ok i

/-- R57, R59, R60: no operand bit is dropped: encoding what a bundle decodes to gives back the select
and every operand that the operation reads. -/
def Obligations.EncodeDecodeAgree : Prop :=
  ∀ (b : OpBundle) (i : Instr), decode b = .ok i →
    (encode i).op = b.op ∧
    (b.op = 0b000 → (encode i).cfg = b.cfg ∧ (encode i).sendPresent = b.sendPresent) ∧
    (b.op = 0b001 → (encode i).buf = b.buf ∧ (encode i).length = b.length) ∧
    (b.op = 0b010 → (encode i).dest = b.dest) ∧
    (b.op = 0b011 →
      (encode i).hdr = b.hdr ∧ (encode i).pd = b.pd ∧ (encode i).pdLen = b.pdLen)

/-- R40, R59, R72, R83: the frame of a request on the wire is `26 + PDL` bytes, VERIFY_CHECKSUM
accepts it, and its slots are the operands that HANDLE_REQUEST gets. -/
def Obligations.AssembledFrameIsPresented : Prop :=
  ∀ (h : RequestHeader) (pd : List Byte), h.pdl.toNat = pd.length →
    (requestFrame h pd).length = 26 + pd.length ∧
    verifyChecksum (requestFrame h pd) (26 + pd.length) = .ok true ∧
    bundleOfFrame (requestFrame h pd) = some (requestBundle (headerBytes h) pd pd.length)

/-- R71, R76, R77, R119: each of the twelve request kinds is HANDLE_REQUEST on the header that holds
the kind's command class and PID, in every state and on every operand. -/
def Obligations.RequestKindsAreHandleRequests : Prop :=
  ∀ (r : RequestOperands) (s : State),
    let request (cc : Byte) (pid : Word16) : Instr :=
      .handleRequest (headerBytes (operandsHeader r cc pid)) r.pd r.pdLen
    exec (.discUniqueBranch r) s = exec (request 0x10 0x0001) s ∧
    exec (.discMute r) s = exec (request 0x10 0x0002) s ∧
    exec (.discUnMute r) s = exec (request 0x10 0x0003) s ∧
    exec (.getSupportedParameters r) s = exec (request 0x20 0x0050) s ∧
    exec (.getDeviceInfo r) s = exec (request 0x20 0x0060) s ∧
    exec (.getDeviceModelDescription r) s = exec (request 0x20 0x0080) s ∧
    exec (.getManufacturerLabel r) s = exec (request 0x20 0x0081) s ∧
    exec (.getDeviceLabel r) s = exec (request 0x20 0x0082) s ∧
    exec (.setDeviceLabel r) s = exec (request 0x30 0x0082) s ∧
    exec (.getSoftwareVersionLabel r) s = exec (request 0x20 0x00C0) s ∧
    exec (.getIdentifyDevice r) s = exec (request 0x20 0x1000) s ∧
    exec (.setIdentifyDevice r) s = exec (request 0x30 0x1000) s

/-! ## Reset, invariant, safety -/

/-- R176: at power-on `initialized = 0` and `stage = IDLE`. -/
def Obligations.PowerOnState : Prop :=
  State.reset.initialized = false ∧ State.reset.txn.stage = .idle

/-- The invariant holds at power-on. -/
def Obligations.ResetSatisfiesInvariant : Prop := State.reset.Inv

/-- R9, R16, R25, R34, R112, R122: from every state that meets the invariant, a step gives a state
that meets it: no transaction is left open, the configuration and the label register keep their
bounds, and every frame ever sent is either a standard frame that the block's own checks accept or a
DUB response. (A DUB response has 24 bytes, so VERIFY_CHECKSUM returns 0 on it, R88.) -/
def Obligations.EveryStepKeepsInvariant : Prop :=
  ∀ s t : State, s.Inv → step s = .next t → t.Inv

/-- R165: the two fault sites, and that neither is reachable from an admitted operation: in a state
that meets the invariant no instruction faults, and so no step. -/
def Obligations.NoInternalFault : Prop :=
  (∀ (v : RequestView) (rtype : Byte) (data : List Byte),
    buildStandard v rtype data = .error .pdOverflow ↔ 231 < data.length) ∧
  (∀ (buf : List Byte) (i n : Nat),
    memRead buf i n = .error .readOutOfBounds ↔ buf.length < i + n) ∧
  ∀ s : State, s.Inv → (∀ (i : Instr) (f : Fault), exec i s ≠ .fault f) ∧ Safe s

/-! ## Refusals -/

/-- R26: `initialized` is 0 from power-on until the first INIT, 1 after it and never cleared; while it
is 0 every operation other than INIT is refused. -/
def Obligations.InitializedGatesEveryOperation : Prop :=
  State.reset.initialized = false ∧
  (∀ (cfg : Cfg) (p : Bool) (s t : State), exec (.init cfg p) s = .next t → t.initialized = true) ∧
  (∀ (i : Instr) (s t : State), exec i s = .next t → s.initialized = true →
    t.initialized = true) ∧
  (∀ (i : Instr) (s t : State), exec i s = .next t → t.initialized ≠ s.initialized →
    isInit i = true) ∧
  ∀ (i : Instr) (s : State), isInit i = false → s.initialized = false → s.txn.stage = .idle →
    exec i s = .refused .notInitialized

/-- R155, R58: the five refusals, in any state between transactions. The last two clauses are about
initialised states; before INIT the refusal is the second clause's. -/
def Obligations.MalformedOperationsAreRefused : Prop :=
  ∀ s : State, s.txn.stage = .idle →
    (∀ (b : OpBundle) (rest : List OpBundle), s.input = b :: rest →
      b.op = 0b101 ∨ b.op = 0b110 ∨ b.op = 0b111 → step s = .refused (.reservedSelect b.op)) ∧
    (s.initialized = false → ∀ i : Instr, isInit i = false →
      exec i s = .refused .notInitialized) ∧
    (∀ (cfg : Cfg) (p : Bool),
      deviceId cfg.ownUid = 0xFFFFFFFF ∨ 115 < cfg.supportedPids.length ∨
        32 < cfg.modelDescription.length ∨ 32 < cfg.manufacturerLabel.length ∨
        32 < cfg.softwareVersionLabel.length ∨ 32 < cfg.defaultDeviceLabel.length →
      exec (.init cfg p) s = .refused .invalidConfiguration) ∧
    (s.initialized = true → ∀ (buf : List Byte) (length : Nat),
      257 < length ∨ buf.length < length →
      exec (.verifyChecksum buf length) s = .refused .checksumOperands) ∧
    (s.initialized = true → ∀ (hdr pd : List Byte) (pdLen : Nat),
      hdr.length ≠ 24 ∨ pd.length ≠ pdLen ∨ 231 < pdLen →
      exec (.handleRequest hdr pd pdLen) s = .refused .requestOperands)

/-! ## Control operations -/

/-- R152, R156: INIT on a record that meets R9 replaces every persistent register, whatever the
earlier state; it emits no event, keeps the trace and starts no transaction. INIT on any other record
is refused. -/
def Obligations.InitReplacesEveryRegister : Prop :=
  ∀ (cfg : Cfg) (p : Bool) (s : State), s.txn.stage = .idle →
    exec (.init cfg p) s =
      if deviceId cfg.ownUid ≠ 0xFFFFFFFF ∧ cfg.supportedPids.length ≤ 115 ∧
          cfg.modelDescription.length ≤ 32 ∧ cfg.manufacturerLabel.length ≤ 32 ∧
          cfg.softwareVersionLabel.length ≤ 32 ∧ cfg.defaultDeviceLabel.length ≤ 32 then
        .next
          { initialized := true, cfg := cfg, sendPresent := p, muted := false, identifyOn := false
            deviceLabel := cfg.defaultDeviceLabel, txn := s.txn, events := s.events
            result := none, input := s.input }
      else .refused .invalidConfiguration

/-- R32: IS_MUTED returns `muted` and changes nothing else. -/
def Obligations.IsMutedReturnsTheFlag : Prop :=
  ∀ s : State, Ready s → exec .isMuted s = .next { s with result := some s.muted }

/-- R94: REQUIRES_ACTION returns 1 for the own UID, the all-devices UID and the vendorcast UID of the
own manufacturer, else 0, and changes nothing else. -/
def Obligations.RequiresActionResult : Prop :=
  ∀ (dest : Uid) (s : State), Ready s →
    exec (.requiresAction dest) s = .next
      { s with result := some (decide (dest = s.cfg.ownUid ∨ dest = 0xFFFFFFFFFFFF ∨
          (deviceId dest = 0xFFFFFFFF ∧
            manufacturerId dest = manufacturerId s.cfg.ownUid))) }

/-- R93, R70: under the constraint of R9 each address class is exactly one form of the destination;
where the own manufacturer is 0xFFFF the all-devices UID is the vendorcast form too, and the
all-devices test comes first. -/
def Obligations.AddressClassesAreTheFourForms : Prop :=
  ∀ dest own : Uid, deviceId own ≠ 0xFFFFFFFF →
    (addressClass dest own = .unicast ↔ dest = own) ∧
    (addressClass dest own = .allDevices ↔ dest = uidAll) ∧
    (addressClass dest own = .vendorcastOwn ↔
      dest = vendorcast (manufacturerId own) ∧ dest ≠ uidAll) ∧
    (addressClass dest own = .other ↔
      dest ≠ own ∧ dest ≠ uidAll ∧ dest ≠ vendorcast (manufacturerId own))

/-! ## Checksum -/

/-- R88: on well-formed operands VERIFY_CHECKSUM returns 1 exactly where the length is at least 26
and the byte sum of the window less its last two bytes, modulo 2^16, is the big-endian value of those
two; it changes nothing else. Other operands are refused. -/
def Obligations.VerifyChecksumResult : Prop :=
  ∀ (buf : List Byte) (length : Nat) (s : State), Ready s →
    (length ≤ buf.length → length ≤ 257 →
      exec (.verifyChecksum buf length) s = .next
        { s with result := some (decide (26 ≤ length ∧
            ((buf.take (length - 2)).map BitVec.toNat).sum % 65536 =
              (slot buf (length - 2)).toNat * 256 + (slot buf (length - 1)).toNat)) }) ∧
    (buf.length < length ∨ 257 < length →
      exec (.verifyChecksum buf length) s = .refused .checksumOperands)

/-- R88 (corner cases): changing either trailer byte of a frame that verifies makes it fail. -/
def Obligations.TrailerByteChangeIsDetected : Prop :=
  ∀ (buf : List Byte) (n i : Nat) (b : Byte), n ≤ buf.length →
    verifyChecksum buf n = .ok true → i = n - 2 ∨ i = n - 1 → b ≠ slot buf i →
    verifyChecksum (buf.set i b) n = .ok false

/-- R90: for every window the block sums, the reduction modulo 2^16 never changes the value: at most
255 bytes, so at most 65025; and at most 3060 for the DUB checksum. -/
def Obligations.ChecksumIsNeverReduced : Prop :=
  (∀ bs : List Byte, bs.length ≤ 255 →
    (checksum16 bs).toNat = (bs.map BitVec.toNat).sum ∧ (bs.map BitVec.toNat).sum ≤ 65025) ∧
  ∀ own : Uid,
    (checksum16 ((be48 own).flatMap dubPair)).toNat =
      (((be48 own).flatMap dubPair).map BitVec.toNat).sum ∧
    (((be48 own).flatMap dubPair).map BitVec.toNat).sum ≤ 3060

/-! ## Frames -/

/-- R103, R111: `BuildStandard` fills the slots of the table and appends the checksum; more than 231
bytes of data is an internal fault. -/
def Obligations.BuildStandardLayout : Prop :=
  ∀ (v : RequestView) (rtype : Byte) (data : List Byte),
    buildStandard v rtype data =
      if data.length ≤ 231 then
        .ok (replyFrame v.src v.dest v.tn rtype v.subDevice (v.cc + 1) v.pid data)
      else .error .pdOverflow

/-- R89, R112: every standard frame the block builds is `26 + n` bytes, 26 to 257, verifies, and
passes the decoder's checks with its own PDL. -/
def Obligations.BuiltFramesVerify : Prop :=
  ∀ (v : RequestView) (rtype : Byte) (data frame : List Byte),
    buildStandard v rtype data = .ok frame →
    frame.length = 26 + data.length ∧ frame.length ≤ 257 ∧
    verifyChecksum frame frame.length = .ok true ∧
    ∃ h, headerOfBytes (slice frame 0 24) = some h ∧ PassesDecode h data.length

/-- R63: the 24 bytes of the DUB response, and that the two bytes of each pair, ANDed, give back the
encoded byte (R132). -/
def Obligations.DubResponseLayout : Prop :=
  ∀ own : Uid,
    let dub := buildDub own
    let c := checksum16 (slice dub 8 12)
    let content := be48 own ++ be16 c
    dub.length = 24 ∧
    slice dub 0 8 = [0xFE, 0xFE, 0xFE, 0xFE, 0xFE, 0xFE, 0xFE, 0xAA] ∧
    ∀ k < 8,
      slot dub (8 + 2 * k) = slot content k ||| 0xAA ∧
      slot dub (9 + 2 * k) = slot content k ||| 0x55 ∧
      slot dub (8 + 2 * k) &&& slot dub (9 + 2 * k) = slot content k

/-! ## HANDLE_REQUEST: the paths that run no handler -/

/-- R78: the four frame-level illegal requests are dropped: no reply, no state change, no event. -/
def Obligations.MalformedFramesAreDropped : Prop :=
  ∀ (hdr pd : List Byte) (pdLen : Nat) (s : State), Ready s → hdr.length = 24 →
    OperandsOk pd pdLen →
    slot hdr 0 ≠ 0xCC ∨ slot hdr 1 ≠ 0x01 ∨ (slot hdr 23).toNat ≠ pdLen ∨
      (slot hdr 2).toNat ≠ 24 + (slot hdr 23).toNat →
    exec (.handleRequest hdr pd pdLen) s =
      .next { s with txn := Transaction.idle, result := none }

/-- R115: a request whose address class is OTHER is dropped: no state write, no port event, no
send. -/
def Obligations.OtherAddressesAreDropped : Prop :=
  ∀ (hdr pd : List Byte) (pdLen : Nat) (h : RequestHeader) (s : State), Ready s →
    headerOfBytes hdr = some h → OperandsOk pd pdLen → PassesDecode h pdLen →
    addressClass h.dest s.cfg.ownUid = .other →
    exec (.handleRequest hdr pd pdLen) s =
      .next { s with txn := Transaction.idle, result := none }

/-- R116: a non-zero sub-device gets NR_SUB_DEVICE_OUT_OF_RANGE, whatever the command class and PID;
no state changes; nothing is sent to a broadcast or vendorcast. -/
def Obligations.SubDeviceIsOutOfRange : Prop :=
  ∀ (hdr pd : List Byte) (pdLen : Nat) (h : RequestHeader) (s : State), Ready s →
    headerOfBytes hdr = some h → OperandsOk pd pdLen → PassesDecode h pdLen →
    PassesGate h.dest s → h.subDevice ≠ 0 →
    exec (.handleRequest hdr pd pdLen) s =
      .next (s.completed (standardSends s h 0x02 [0x00, 0x09]))

/-- R79, R117: an unsupported command class gets NR_UNSUPPORTED_COMMAND_CLASS; no state changes. -/
def Obligations.UnsupportedCommandClassIsNacked : Prop :=
  ∀ (hdr pd : List Byte) (pdLen : Nat) (h : RequestHeader) (s : State), Ready s →
    headerOfBytes hdr = some h → OperandsOk pd pdLen → PassesDecode h pdLen →
    PassesGate h.dest s → h.subDevice = 0 → h.cc ≠ 0x10 → h.cc ≠ 0x20 → h.cc ≠ 0x30 →
    exec (.handleRequest hdr pd pdLen) s =
      .next (s.completed (standardSends s h 0x02 [0x00, 0x05]))

/-- R118: a supported command class with a key that is no row of R76 gets NR_UNKNOWN_PID; no state
changes. -/
def Obligations.UnknownPidIsNacked : Prop :=
  ∀ (hdr pd : List Byte) (pdLen : Nat) (h : RequestHeader) (s : State), Ready s →
    headerOfBytes hdr = some h → OperandsOk pd pdLen → PassesDecode h pdLen →
    PassesGate h.dest s → h.subDevice = 0 → h.cc = 0x10 ∨ h.cc = 0x20 ∨ h.cc = 0x30 →
    dispatchKey h.cc h.pid ∉
      ([0x100001, 0x100002, 0x100003, 0x200050, 0x200060, 0x200080, 0x200081, 0x200082, 0x300082,
        0x2000C0, 0x201000, 0x301000] : List Key) →
    exec (.handleRequest hdr pd pdLen) s =
      .next (s.completed (standardSends s h 0x02 [0x00, 0x00]))

/-- R58, R163: every admitted HANDLE_REQUEST completes, whatever its header says: the transaction ends
with stage IDLE and nothing transient left, returns nothing, and only appends to the trace. -/
def Obligations.HandleRequestCompletes : Prop :=
  ∀ (hdr pd : List Byte) (pdLen : Nat) (s : State), Ready s → s.Inv → hdr.length = 24 →
    OperandsOk pd pdLen →
    ∃ t es, exec (.handleRequest hdr pd pdLen) s = .next t ∧ t.events = s.events ++ es ∧
      t.txn = Transaction.idle ∧ t.result = none ∧ t.initialized = true ∧ t.cfg = s.cfg ∧
      t.sendPresent = s.sendPresent ∧ t.input = s.input

/-- R77, R119: HANDLE_REQUEST itself, on a request that reaches stage DISPATCH with the key of a row of
R76, has that row's effect, for each of the twelve rows, whatever the parameter data (R127, R128,
R130, R137 to R148). A row that returns configured data or the label asks for the bounds that the
invariant gives (R9, R25). -/
def Obligations.HandleRequestRunsTheSelectedRow : Prop :=
  ∀ (hdr pd : List Byte) (pdLen : Nat) (h : RequestHeader) (s : State), Ready s →
    headerOfBytes hdr = some h → OperandsOk pd pdLen → PassesDecode h pdLen →
    PassesGate h.dest s → h.subDevice = 0 →
    let gives (t : State) : Prop := exec (.handleRequest hdr pd pdLen) s = .next t
    let key := dispatchKey h.cc h.pid
    let d := s.cfg.deviceInfo
    let nack := s.completed (standardSends s h 0x02 [0x00, 0x01])
    let ack (ports : List Event) (data : List Byte) : State :=
      s.completed (ports ++ standardSends s h 0x00 data)
    let get (data : List Byte) : Prop := gives (if h.pdl = 0 then ack [] data else nack)
    (key = 0x100001 → gives (s.completed
      (if s.muted = false ∧ h.pdl = 12 ∧ fromBe (pd.take 6) ≤ s.cfg.ownUid.toNat ∧
          s.cfg.ownUid.toNat ≤ fromBe (pd.drop 6) then
        dubSends s
      else []))) ∧
    (key = 0x100002 → gives (if h.pdl = 0 then
        { ack [.portSet s.cfg.muteCh s.cfg.muteBit] [0x00, 0x00] with muted := true }
      else nack)) ∧
    (key = 0x100003 → gives (if h.pdl = 0 then
        { ack [.portClear s.cfg.muteCh s.cfg.muteBit] [0x00, 0x00] with muted := false }
      else nack)) ∧
    (key = 0x200050 → cfgValid s.cfg = true → get (s.cfg.supportedPids.flatMap be16)) ∧
    (key = 0x200060 → get
      ([0x01, 0x00] ++ be16 d.modelId ++ be16 d.productCategory ++ be32 d.softwareVersionId ++
        be16 d.dmxFootprint ++ [d.personalityCurrent] ++ [d.personalityCount] ++
        be16 d.dmxStartAddress ++ [0x00, 0x00] ++ [d.sensorCount])) ∧
    (key = 0x200080 → cfgValid s.cfg = true → get s.cfg.modelDescription) ∧
    (key = 0x200081 → cfgValid s.cfg = true → get s.cfg.manufacturerLabel) ∧
    (key = 0x200082 → s.deviceLabel.length ≤ 32 → get s.deviceLabel) ∧
    (key = 0x300082 → gives (if h.pdl.toNat ≤ 32 then { ack [] [] with deviceLabel := pd }
      else nack)) ∧
    (key = 0x2000C0 → cfgValid s.cfg = true → get s.cfg.softwareVersionLabel) ∧
    (key = 0x201000 → get [if s.identifyOn then 0x01 else 0x00]) ∧
    (key = 0x301000 → gives (if h.pdl = 1 then
        if slot pd 0 = 0x00 then
          { ack [.portClear s.cfg.identifyCh s.cfg.identifyBit] [] with identifyOn := false }
        else { ack [.portSet s.cfg.identifyCh s.cfg.identifyBit] [] with identifyOn := true }
      else nack))

/-! ## Discovery -/

/-- R127: DISC_MUTE, delivered: with no parameter data `muted` becomes 1, one PortSet is emitted
whatever `muted` was, and the control field is the ACK; otherwise NR_FORMAT_ERROR and no effect. -/
def Obligations.DiscMuteResult : Prop :=
  ∀ (r : RequestOperands) (s : State), Ready s → Delivered r s →
    exec (.discMute r) s = .next
      (if r.pdl = 0 then
        { s.completed (.portSet s.cfg.muteCh s.cfg.muteBit ::
            standardSends s (operandsHeader r 0x10 0x0002) 0x00 [0x00, 0x00]) with muted := true }
      else s.completed (standardSends s (operandsHeader r 0x10 0x0002) 0x02 [0x00, 0x01]))

/-- R128: DISC_UN_MUTE, delivered: as DISC_MUTE, with `muted` becoming 0 and one PortClear. -/
def Obligations.DiscUnMuteResult : Prop :=
  ∀ (r : RequestOperands) (s : State), Ready s → Delivered r s →
    exec (.discUnMute r) s = .next
      (if r.pdl = 0 then
        { s.completed (.portClear s.cfg.muteCh s.cfg.muteBit ::
            standardSends s (operandsHeader r 0x10 0x0003) 0x00 [0x00, 0x00]) with muted := false }
      else s.completed (standardSends s (operandsHeader r 0x10 0x0003) 0x02 [0x00, 0x01]))

/-- R130, R131, R133: DISC_UNIQUE_BRANCH, delivered: the DUB response where the block is unmuted, the
parameter data is 12 bytes and the own UID is in the inclusive range; otherwise silence. No state
changes on either path. -/
def Obligations.DiscUniqueBranchResult : Prop :=
  ∀ (r : RequestOperands) (s : State), Ready s → Delivered r s →
    exec (.discUniqueBranch r) s = .next (s.completed
      (if s.muted = false ∧ r.pdl = 12 ∧ fromBe (r.pd.take 6) ≤ s.cfg.ownUid.toNat ∧
          s.cfg.ownUid.toNat ≤ fromBe (r.pd.drop 6) then
        dubSends s
      else []))

/-- R134: whatever its operands, a DUB that completes changes no register and emits no port event;
a muted block sends nothing for a DUB that passes the sub-device check. -/
def Obligations.DubChangesNothing : Prop :=
  ∀ (r : RequestOperands) (s t : State), exec (.discUniqueBranch r) s = .next t →
    (∃ sends, t = s.completed sends ∧ ∀ e ∈ sends, e.isSend = true) ∧
    (s.muted = true → r.subDevice = 0 → t.events = s.events)

/-- R129, R135, R154: a delivered Mute mutes, and the block stays muted through any run of completed
operations in which none is INIT or a request with the key of DISC_UN_MUTE: after any such run, the
empty one too, IS_MUTED returns 1, every delivered DUB is silent, and a delivered UnMute makes IS_MUTED
return 0. -/
def Obligations.MuteGatesDiscovery : Prop :=
  ∀ (m : RequestOperands) (s : State), Ready s → Delivered m s → m.pdl = 0 →
    ∃ t, exec (.discMute m) s = .next t ∧
      ∀ (ops : List Instr) (w : State), (∀ i ∈ ops, isInit i = false ∧ keyOf i ≠ some 0x100003) →
        execAll ops t = .next w →
        exec .isMuted w = .next { w with result := some true } ∧
        (∀ d : RequestOperands, Delivered d w →
          exec (.discUniqueBranch d) w = .next (w.completed [])) ∧
        ∀ u : RequestOperands, Delivered u w → u.pdl = 0 →
          ∃ x, exec (.discUnMute u) w = .next x ∧
            exec .isMuted x = .next { x with result := some false }

/-! ## Parameters -/

/-- R138 to R144: the five constant parameters, delivered: with no parameter data the ACK with the
configured data, otherwise NR_FORMAT_ERROR; no state changes and no port event. -/
def Obligations.ConstantParametersAreReturned : Prop :=
  ∀ (r : RequestOperands) (s : State), Ready s → cfgValid s.cfg = true → Delivered r s →
    let answer (pid : Word16) (data : List Byte) : Host.Outcome State Fault Refusal :=
      .next (s.completed
        (if r.pdl = 0 then standardSends s (operandsHeader r 0x20 pid) 0x00 data
         else standardSends s (operandsHeader r 0x20 pid) 0x02 [0x00, 0x01]))
    let d := s.cfg.deviceInfo
    exec (.getSupportedParameters r) s = answer 0x0050 (s.cfg.supportedPids.flatMap be16) ∧
    exec (.getDeviceInfo r) s = answer 0x0060
      ([0x01, 0x00] ++ be16 d.modelId ++ be16 d.productCategory ++ be32 d.softwareVersionId ++
        be16 d.dmxFootprint ++ [d.personalityCurrent] ++ [d.personalityCount] ++
        be16 d.dmxStartAddress ++ [0x00, 0x00] ++ [d.sensorCount]) ∧
    exec (.getDeviceModelDescription r) s = answer 0x0080 s.cfg.modelDescription ∧
    exec (.getManufacturerLabel r) s = answer 0x0081 s.cfg.manufacturerLabel ∧
    exec (.getSoftwareVersionLabel r) s = answer 0x00C0 s.cfg.softwareVersionLabel

/-- R145, R147: GET DEVICE_LABEL and GET IDENTIFY_DEVICE, delivered: the register's bytes, or the one
byte 01 or 00; with parameter data NR_FORMAT_ERROR; no state changes and no port event. -/
def Obligations.RegistersAreReturned : Prop :=
  ∀ (r : RequestOperands) (s : State), Ready s → s.deviceLabel.length ≤ 32 → Delivered r s →
    exec (.getDeviceLabel r) s = .next (s.completed
      (if r.pdl = 0 then standardSends s (operandsHeader r 0x20 0x0082) 0x00 s.deviceLabel
       else standardSends s (operandsHeader r 0x20 0x0082) 0x02 [0x00, 0x01])) ∧
    exec (.getIdentifyDevice r) s = .next (s.completed
      (if r.pdl = 0 then
        standardSends s (operandsHeader r 0x20 0x1000) 0x00 [if s.identifyOn then 0x01 else 0x00]
       else standardSends s (operandsHeader r 0x20 0x1000) 0x02 [0x00, 0x01]))

/-- R146: SET DEVICE_LABEL, delivered: at most 32 bytes are stored as given and ACKed, under every
address class; a longer label gets NR_FORMAT_ERROR and no effect. -/
def Obligations.SetDeviceLabelResult : Prop :=
  ∀ (r : RequestOperands) (s : State), Ready s → Delivered r s →
    exec (.setDeviceLabel r) s = .next
      (if r.pdl.toNat ≤ 32 then
        { s.completed (standardSends s (operandsHeader r 0x30 0x0082) 0x00 []) with
          deviceLabel := r.pd }
      else s.completed (standardSends s (operandsHeader r 0x30 0x0082) 0x02 [0x00, 0x01]))

/-- R148, R149: SET IDENTIFY_DEVICE, delivered: one byte, non-zero for on; exactly one port event for
the identify line whatever `identify_on` was; otherwise NR_FORMAT_ERROR and no effect. -/
def Obligations.SetIdentifyDeviceResult : Prop :=
  ∀ (r : RequestOperands) (s : State), Ready s → Delivered r s →
    exec (.setIdentifyDevice r) s = .next
      (if r.pdl = 1 then
        if slot r.pd 0 = 0x00 then
          { s.completed (.portClear s.cfg.identifyCh s.cfg.identifyBit ::
              standardSends s (operandsHeader r 0x30 0x1000) 0x00 []) with identifyOn := false }
        else
          { s.completed (.portSet s.cfg.identifyCh s.cfg.identifyBit ::
              standardSends s (operandsHeader r 0x30 0x1000) 0x00 []) with identifyOn := true }
      else s.completed (standardSends s (operandsHeader r 0x30 0x1000) 0x02 [0x00, 0x01]))

/-- R150: the seven GET instructions, whatever their operands: no register changes and no port event
is emitted, on every path that completes. -/
def Obligations.GetsWriteNothing : Prop :=
  ∀ (r : RequestOperands) (s t : State),
    exec (.getSupportedParameters r) s = .next t ∨ exec (.getDeviceInfo r) s = .next t ∨
      exec (.getDeviceModelDescription r) s = .next t ∨ exec (.getManufacturerLabel r) s = .next t ∨
      exec (.getDeviceLabel r) s = .next t ∨ exec (.getSoftwareVersionLabel r) s = .next t ∨
      exec (.getIdentifyDevice r) s = .next t →
    ∃ sends, t = s.completed sends ∧ ∀ e ∈ sends, e.isSend = true

/-! ## Rules of the whole machine -/

/-- R18, R23 to R26, R33: which instructions may change which register. -/
def Obligations.RegistersChangeOnlyByTheirWriters : Prop :=
  ∀ (i : Instr) (s t : State), exec i s = .next t →
    (t.cfg ≠ s.cfg → isInit i = true) ∧
    (t.sendPresent ≠ s.sendPresent → isInit i = true) ∧
    (t.initialized ≠ s.initialized → isInit i = true) ∧
    (t.muted ≠ s.muted →
      isInit i = true ∨ keyOf i = some 0x100002 ∨ keyOf i = some 0x100003) ∧
    (t.identifyOn ≠ s.identifyOn → isInit i = true ∨ keyOf i = some 0x301000) ∧
    (t.deviceLabel ≠ s.deviceLabel → isInit i = true ∨ keyOf i = some 0x300082) ∧
    t.input = s.input

/-- R13, R31, R52, R170: every operation appends to the trace, and only that: at most one port event
and then at most one Send; neither, for an operation that is no request. -/
def Obligations.TraceGrowsByPortThenSend : Prop :=
  ∀ (i : Instr) (s t : State), exec i s = .next t →
    ∃ ports sends, t.events = s.events ++ ports ++ sends ∧
      ports.length ≤ 1 ∧ sends.length ≤ 1 ∧
      (∀ e ∈ ports, e.isSend = false) ∧ (∀ e ∈ sends, e.isSend = true) ∧
      (keyOf i = none → ports = [] ∧ sends = [])

/-- R123: with `send_present = 0` no Send is emitted, and nothing else changes: the same operation
without the send capability gives the same state, less the Sends. -/
def Obligations.NullSendCapabilityOnlyRemovesSends : Prop :=
  ∀ (i : Instr) (s t : State), isInit i = false → exec i s = .next t →
    ∃ es, t.events = s.events ++ es ∧
      exec i { s with sendPresent := false } = .next
        { t with
          sendPresent := false
          events := s.events ++ es.filter fun e => !e.isSend }

/-- R33, R98, R135: `muted` is read by DISC_UNIQUE_BRANCH and IS_MUTED only: any other operation does
the same whatever `muted` holds. -/
def Obligations.MutedIsReadOnlyByDubAndIsMuted : Prop :=
  ∀ (i : Instr) (s t : State) (b : Bool), keyOf i ≠ some 0x100001 → i ≠ .isMuted →
    exec i s = .next t → ∃ m, exec i { s with muted := b } = .next { t with muted := m }

/-- R96, R102: the port ID and the message count of a request never affect anything. -/
def Obligations.PortIdAndMessageCountAreIgnored : Prop :=
  ∀ (h : RequestHeader) (pd : List Byte) (pdLen : Nat) (port count : Byte) (s : State),
    exec (.handleRequest (headerBytes { h with portId := port, msgCount := count }) pd pdLen) s =
      exec (.handleRequest (headerBytes h) pd pdLen) s

/-- R95, R121: the effects of a request do not depend on the reply: under two destinations that both
pass the gate, the same request leaves the same registers and the same port events. -/
def Obligations.EffectsDoNotDependOnTheReply : Prop :=
  ∀ (h : RequestHeader) (pd : List Byte) (pdLen : Nat) (d1 d2 : Uid) (s t1 t2 : State),
    PassesGate d1 s → PassesGate d2 s →
    exec (.handleRequest (headerBytes { h with dest := d1 }) pd pdLen) s = .next t1 →
    exec (.handleRequest (headerBytes { h with dest := d2 }) pd pdLen) s = .next t2 →
    { t1 with events := t2.events } = t2 ∧
    t1.events.filter (fun e => !e.isSend) = t2.events.filter fun e => !e.isSend

/-- R124: with a send capability, every request that passes DECODE completes, and the number and kind
of its Sends are these; `reachesDub` says that it is a DISC_UNIQUE_BRANCH that reaches its handler. -/
def Obligations.ReplyCount : Prop :=
  ∀ (hdr pd : List Byte) (pdLen : Nat) (h : RequestHeader) (s : State), Ready s → s.Inv →
    s.sendPresent = true → headerOfBytes hdr = some h → OperandsOk pd pdLen →
    PassesDecode h pdLen →
    let reachesDub := PassesGate h.dest s ∧ h.subDevice = 0 ∧ dispatchKey h.cc h.pid = 0x100001
    ∃ t es, exec (.handleRequest hdr pd pdLen) s = .next t ∧ t.events = s.events ++ es ∧
      (addressClass h.dest s.cfg.ownUid = .unicast → ¬reachesDub →
        ∃ frame, es.filter Event.isSend = [.send true [frame] 1]) ∧
      (addressClass h.dest s.cfg.ownUid = .allDevices ∨
          addressClass h.dest s.cfg.ownUid = .vendorcastOwn →
        ¬reachesDub → es.filter Event.isSend = []) ∧
      (addressClass h.dest s.cfg.ownUid = .other → es = []) ∧
      (reachesDub → es = [] ∨ es = [.send false [buildDub s.cfg.ownUid] 1])
end

