-- ==== Sys2Proof/Laws/Bytes.lean ====
section
/-! SUPPORT. Byte order: a field written big-endian and read back is the field, and the bytes of a
header are its fields (R44 to R46, R59, R60). -/

namespace Sys2Proof

@[simp] theorem length_be16 (x : Word16) : (be16 x).length = 2 := rfl
@[simp] theorem length_be32 (x : Word32) : (be32 x).length = 4 := rfl
@[simp] theorem length_be48 (x : Uid) : (be48 x).length = 6 := rfl

/-- Reading the two bytes of `be16`. -/
@[simp] theorem fromBe_be16 (x : Word16) : fromBe (be16 x) = x.toNat := by
  simp only [fromBe, be16, List.foldl_cons, List.foldl_nil, BitVec.extractLsb'_toNat,
    Nat.shiftRight_eq_div_pow]
  have := x.isLt
  omega

/-- Reading the six bytes of `be48`. -/
@[simp] theorem fromBe_be48 (x : Uid) : fromBe (be48 x) = x.toNat := by
  simp only [fromBe, be48, List.foldl_cons, List.foldl_nil, BitVec.extractLsb'_toNat,
    Nat.shiftRight_eq_div_pow]
  have := x.isLt
  omega

theorem be16_fromBe (a b : Byte) : be16 (BitVec.ofNat 16 (fromBe [a, b])) = [a, b] := by
  have ha := a.isLt
  have hb := b.isLt
  simp only [fromBe, be16, List.foldl_cons, List.foldl_nil, List.cons.injEq, and_true]
  constructor <;> apply BitVec.eq_of_toNat_eq <;>
    simp only [BitVec.extractLsb'_toNat, BitVec.toNat_ofNat, Nat.shiftRight_eq_div_pow] <;> omega

theorem be48_fromBe (a b c d e f : Byte) :
    be48 (BitVec.ofNat 48 (fromBe [a, b, c, d, e, f])) = [a, b, c, d, e, f] := by
  have := a.isLt; have := b.isLt; have := c.isLt
  have := d.isLt; have := e.isLt; have := f.isLt
  simp only [fromBe, be48, List.foldl_cons, List.foldl_nil, List.cons.injEq, and_true]
  refine ⟨?_, ?_, ?_, ?_, ?_, ?_⟩ <;> apply BitVec.eq_of_toNat_eq <;>
    simp only [BitVec.extractLsb'_toNat, BitVec.toNat_ofNat, Nat.shiftRight_eq_div_pow] <;> omega

/-- A list of 24 bytes, byte by byte. -/
theorem exists_bytes_of_length_24 {α : Type} {l : List α} (h : l.length = 24) :
    ∃ a0 a1 a2 a3 a4 a5 a6 a7 a8 a9 a10 a11 a12 a13 a14 a15 a16 a17 a18 a19 a20 a21 a22 a23,
      l = [a0, a1, a2, a3, a4, a5, a6, a7, a8, a9, a10, a11, a12, a13, a14, a15, a16, a17, a18,
        a19, a20, a21, a22, a23] := by
  refine ⟨l[0], l[1], l[2], l[3], l[4], l[5], l[6], l[7], l[8], l[9], l[10], l[11], l[12], l[13],
    l[14], l[15], l[16], l[17], l[18], l[19], l[20], l[21], l[22], l[23], ?_⟩
  apply List.ext_getElem
  · simp [h]
  · intro i h1 _
    rw [h] at h1
    interval_cases i <;> rfl

@[simp] theorem length_headerBytes (h : RequestHeader) : (headerBytes h).length = 24 := rfl

/-- R59, R60: the fields of the bytes of a header are the header. -/
@[simp] theorem headerOfBytes_headerBytes (h : RequestHeader) :
    headerOfBytes (headerBytes h) = some h := by
  have hd : slice (headerBytes h) 3 6 = be48 h.dest := rfl
  have hs : slice (headerBytes h) 9 6 = be48 h.src := rfl
  have hu : slice (headerBytes h) 18 2 = be16 h.subDevice := rfl
  have hp : slice (headerBytes h) 21 2 = be16 h.pid := rfl
  simp only [headerOfBytes, length_headerBytes, if_true, hd, hs, hu, hp, fromBe_be48, fromBe_be16,
    BitVec.ofNat_toNat, BitVec.setWidth_eq]
  rfl

/-- R59, R60: the bytes of the fields of 24 bytes are those bytes. -/
theorem headerBytes_of_headerOfBytes {hdr : List Byte} {h : RequestHeader}
    (hh : headerOfBytes hdr = some h) : headerBytes h = hdr := by
  unfold headerOfBytes at hh
  split at hh
  · next hl =>
    obtain ⟨a0, a1, a2, a3, a4, a5, a6, a7, a8, a9, a10, a11, a12, a13, a14, a15, a16, a17, a18,
      a19, a20, a21, a22, a23, rfl⟩ := exists_bytes_of_length_24 hl
    cases hh
    simp only [headerBytes, slice, slot, List.drop_succ_cons, List.drop_zero, List.take_succ_cons,
      List.take_zero, be48_fromBe, be16_fromBe]
    rfl
  · cases hh

/-- A header is 24 bytes exactly where it has fields (R58). -/
theorem headerOfBytes_eq_none {hdr : List Byte} : headerOfBytes hdr = none ↔ hdr.length ≠ 24 := by
  simp [headerOfBytes]

end Sys2Proof
end

