-- ==== Sys2Proof/Laws/State.lean ====
section
/-! SUPPORT. One lemma for every field under every update of the state, so that no proof unfolds a
record update; and the same for the two updates that depend on a reply. -/

namespace Sys2Proof.Machine

variable (s : State)

/-! ## State.emit -/

@[simp] theorem State.emit_initialized (e : Event) : (s.emit e).initialized = s.initialized := rfl
@[simp] theorem State.emit_cfg (e : Event) : (s.emit e).cfg = s.cfg := rfl
@[simp] theorem State.emit_sendPresent (e : Event) : (s.emit e).sendPresent = s.sendPresent := rfl
@[simp] theorem State.emit_muted (e : Event) : (s.emit e).muted = s.muted := rfl
@[simp] theorem State.emit_identifyOn (e : Event) : (s.emit e).identifyOn = s.identifyOn := rfl
@[simp] theorem State.emit_deviceLabel (e : Event) : (s.emit e).deviceLabel = s.deviceLabel := rfl
@[simp] theorem State.emit_txn (e : Event) : (s.emit e).txn = s.txn := rfl
@[simp] theorem State.emit_events (e : Event) : (s.emit e).events = s.events ++ [e] := rfl
@[simp] theorem State.emit_result (e : Event) : (s.emit e).result = s.result := rfl
@[simp] theorem State.emit_input (e : Event) : (s.emit e).input = s.input := rfl

/-! ## State.returning -/

@[simp] theorem State.returning_initialized (r : Option Bool) :
    (s.returning r).initialized = s.initialized := rfl
@[simp] theorem State.returning_cfg (r : Option Bool) : (s.returning r).cfg = s.cfg := rfl
@[simp] theorem State.returning_sendPresent (r : Option Bool) :
    (s.returning r).sendPresent = s.sendPresent := rfl
@[simp] theorem State.returning_muted (r : Option Bool) : (s.returning r).muted = s.muted := rfl
@[simp] theorem State.returning_identifyOn (r : Option Bool) :
    (s.returning r).identifyOn = s.identifyOn := rfl
@[simp] theorem State.returning_deviceLabel (r : Option Bool) :
    (s.returning r).deviceLabel = s.deviceLabel := rfl
@[simp] theorem State.returning_txn (r : Option Bool) : (s.returning r).txn = s.txn := rfl
@[simp] theorem State.returning_events (r : Option Bool) : (s.returning r).events = s.events := rfl
@[simp] theorem State.returning_result (r : Option Bool) : (s.returning r).result = r := rfl
@[simp] theorem State.returning_input (r : Option Bool) : (s.returning r).input = s.input := rfl

/-! ## State.beginRequest -/

@[simp] theorem State.beginRequest_initialized (hdr pd : List Byte) :
    (s.beginRequest hdr pd).initialized = s.initialized := rfl
@[simp] theorem State.beginRequest_cfg (hdr pd : List Byte) :
    (s.beginRequest hdr pd).cfg = s.cfg := rfl
@[simp] theorem State.beginRequest_sendPresent (hdr pd : List Byte) :
    (s.beginRequest hdr pd).sendPresent = s.sendPresent := rfl
@[simp] theorem State.beginRequest_muted (hdr pd : List Byte) :
    (s.beginRequest hdr pd).muted = s.muted := rfl
@[simp] theorem State.beginRequest_identifyOn (hdr pd : List Byte) :
    (s.beginRequest hdr pd).identifyOn = s.identifyOn := rfl
@[simp] theorem State.beginRequest_deviceLabel (hdr pd : List Byte) :
    (s.beginRequest hdr pd).deviceLabel = s.deviceLabel := rfl
@[simp] theorem State.beginRequest_txn (hdr pd : List Byte) :
    (s.beginRequest hdr pd).txn = { Transaction.idle with stage := .decode, hdr := some hdr, pd := some pd } := rfl
@[simp] theorem State.beginRequest_events (hdr pd : List Byte) :
    (s.beginRequest hdr pd).events = s.events := rfl
@[simp] theorem State.beginRequest_result (hdr pd : List Byte) :
    (s.beginRequest hdr pd).result = s.result := rfl
@[simp] theorem State.beginRequest_input (hdr pd : List Byte) :
    (s.beginRequest hdr pd).input = s.input := rfl

/-! ## State.enter -/

@[simp] theorem State.enter_initialized (st : Stage) :
    (s.enter st).initialized = s.initialized := rfl
@[simp] theorem State.enter_cfg (st : Stage) : (s.enter st).cfg = s.cfg := rfl
@[simp] theorem State.enter_sendPresent (st : Stage) :
    (s.enter st).sendPresent = s.sendPresent := rfl
@[simp] theorem State.enter_muted (st : Stage) : (s.enter st).muted = s.muted := rfl
@[simp] theorem State.enter_identifyOn (st : Stage) : (s.enter st).identifyOn = s.identifyOn := rfl
@[simp] theorem State.enter_deviceLabel (st : Stage) :
    (s.enter st).deviceLabel = s.deviceLabel := rfl
@[simp] theorem State.enter_txn (st : Stage) : (s.enter st).txn = { s.txn with stage := st } := rfl
@[simp] theorem State.enter_events (st : Stage) : (s.enter st).events = s.events := rfl
@[simp] theorem State.enter_result (st : Stage) : (s.enter st).result = s.result := rfl
@[simp] theorem State.enter_input (st : Stage) : (s.enter st).input = s.input := rfl

/-! ## State.setView -/

@[simp] theorem State.setView_initialized (v : RequestView) :
    (s.setView v).initialized = s.initialized := rfl
@[simp] theorem State.setView_cfg (v : RequestView) : (s.setView v).cfg = s.cfg := rfl
@[simp] theorem State.setView_sendPresent (v : RequestView) :
    (s.setView v).sendPresent = s.sendPresent := rfl
@[simp] theorem State.setView_muted (v : RequestView) : (s.setView v).muted = s.muted := rfl
@[simp] theorem State.setView_identifyOn (v : RequestView) :
    (s.setView v).identifyOn = s.identifyOn := rfl
@[simp] theorem State.setView_deviceLabel (v : RequestView) :
    (s.setView v).deviceLabel = s.deviceLabel := rfl
@[simp] theorem State.setView_txn (v : RequestView) :
    (s.setView v).txn = { s.txn with view := some v } := rfl
@[simp] theorem State.setView_events (v : RequestView) : (s.setView v).events = s.events := rfl
@[simp] theorem State.setView_result (v : RequestView) : (s.setView v).result = s.result := rfl
@[simp] theorem State.setView_input (v : RequestView) : (s.setView v).input = s.input := rfl

/-! ## State.finish -/

@[simp] theorem State.finish_initialized : s.finish.initialized = s.initialized := rfl
@[simp] theorem State.finish_cfg : s.finish.cfg = s.cfg := rfl
@[simp] theorem State.finish_sendPresent : s.finish.sendPresent = s.sendPresent := rfl
@[simp] theorem State.finish_muted : s.finish.muted = s.muted := rfl
@[simp] theorem State.finish_identifyOn : s.finish.identifyOn = s.identifyOn := rfl
@[simp] theorem State.finish_deviceLabel : s.finish.deviceLabel = s.deviceLabel := rfl
@[simp] theorem State.finish_txn : s.finish.txn = Transaction.idle := rfl
@[simp] theorem State.finish_events : s.finish.events = s.events := rfl
@[simp] theorem State.finish_result : s.finish.result = none := rfl
@[simp] theorem State.finish_input : s.finish.input = s.input := rfl

/-! ## State.setDeviceLabel -/

@[simp] theorem State.setDeviceLabel_initialized (l : List Byte) :
    (s.setDeviceLabel l).initialized = s.initialized := rfl
@[simp] theorem State.setDeviceLabel_cfg (l : List Byte) : (s.setDeviceLabel l).cfg = s.cfg := rfl
@[simp] theorem State.setDeviceLabel_sendPresent (l : List Byte) :
    (s.setDeviceLabel l).sendPresent = s.sendPresent := rfl
@[simp] theorem State.setDeviceLabel_muted (l : List Byte) :
    (s.setDeviceLabel l).muted = s.muted := rfl
@[simp] theorem State.setDeviceLabel_identifyOn (l : List Byte) :
    (s.setDeviceLabel l).identifyOn = s.identifyOn := rfl
@[simp] theorem State.setDeviceLabel_deviceLabel (l : List Byte) :
    (s.setDeviceLabel l).deviceLabel = l := rfl
@[simp] theorem State.setDeviceLabel_txn (l : List Byte) : (s.setDeviceLabel l).txn = s.txn := rfl
@[simp] theorem State.setDeviceLabel_events (l : List Byte) :
    (s.setDeviceLabel l).events = s.events := rfl
@[simp] theorem State.setDeviceLabel_result (l : List Byte) :
    (s.setDeviceLabel l).result = s.result := rfl
@[simp] theorem State.setDeviceLabel_input (l : List Byte) :
    (s.setDeviceLabel l).input = s.input := rfl

/-! ## State.initialise -/

@[simp] theorem State.initialise_initialized (c : Cfg) (p : Bool) :
    (s.initialise c p).initialized = true := rfl
@[simp] theorem State.initialise_cfg (c : Cfg) (p : Bool) : (s.initialise c p).cfg = c := rfl
@[simp] theorem State.initialise_sendPresent (c : Cfg) (p : Bool) :
    (s.initialise c p).sendPresent = p := rfl
@[simp] theorem State.initialise_muted (c : Cfg) (p : Bool) :
    (s.initialise c p).muted = false := rfl
@[simp] theorem State.initialise_identifyOn (c : Cfg) (p : Bool) :
    (s.initialise c p).identifyOn = false := rfl
@[simp] theorem State.initialise_deviceLabel (c : Cfg) (p : Bool) :
    (s.initialise c p).deviceLabel = c.defaultDeviceLabel := rfl
@[simp] theorem State.initialise_txn (c : Cfg) (p : Bool) : (s.initialise c p).txn = s.txn := rfl
@[simp] theorem State.initialise_events (c : Cfg) (p : Bool) :
    (s.initialise c p).events = s.events := rfl
@[simp] theorem State.initialise_result (c : Cfg) (p : Bool) :
    (s.initialise c p).result = s.result := rfl
@[simp] theorem State.initialise_input (c : Cfg) (p : Bool) :
    (s.initialise c p).input = s.input := rfl

/-! ## State.setMuted -/

@[simp] theorem State.setMuted_initialized (v : Bool) :
    (s.setMuted v).initialized = s.initialized := rfl
@[simp] theorem State.setMuted_cfg (v : Bool) : (s.setMuted v).cfg = s.cfg := rfl
@[simp] theorem State.setMuted_sendPresent (v : Bool) :
    (s.setMuted v).sendPresent = s.sendPresent := rfl
@[simp] theorem State.setMuted_muted (v : Bool) : (s.setMuted v).muted = v := rfl
@[simp] theorem State.setMuted_identifyOn (v : Bool) :
    (s.setMuted v).identifyOn = s.identifyOn := rfl
@[simp] theorem State.setMuted_deviceLabel (v : Bool) :
    (s.setMuted v).deviceLabel = s.deviceLabel := rfl
@[simp] theorem State.setMuted_txn (v : Bool) : (s.setMuted v).txn = s.txn := rfl
@[simp] theorem State.setMuted_events (v : Bool) :
    (s.setMuted v).events = s.events ++
      [if v then .portSet s.cfg.muteCh s.cfg.muteBit else .portClear s.cfg.muteCh s.cfg.muteBit] := rfl
@[simp] theorem State.setMuted_result (v : Bool) : (s.setMuted v).result = s.result := rfl
@[simp] theorem State.setMuted_input (v : Bool) : (s.setMuted v).input = s.input := rfl

/-! ## State.setIdentify -/

@[simp] theorem State.setIdentify_initialized (v : Bool) :
    (s.setIdentify v).initialized = s.initialized := rfl
@[simp] theorem State.setIdentify_cfg (v : Bool) : (s.setIdentify v).cfg = s.cfg := rfl
@[simp] theorem State.setIdentify_sendPresent (v : Bool) :
    (s.setIdentify v).sendPresent = s.sendPresent := rfl
@[simp] theorem State.setIdentify_muted (v : Bool) : (s.setIdentify v).muted = s.muted := rfl
@[simp] theorem State.setIdentify_identifyOn (v : Bool) : (s.setIdentify v).identifyOn = v := rfl
@[simp] theorem State.setIdentify_deviceLabel (v : Bool) :
    (s.setIdentify v).deviceLabel = s.deviceLabel := rfl
@[simp] theorem State.setIdentify_txn (v : Bool) : (s.setIdentify v).txn = s.txn := rfl
@[simp] theorem State.setIdentify_events (v : Bool) :
    (s.setIdentify v).events = s.events ++
      [if v then .portSet s.cfg.identifyCh s.cfg.identifyBit
        else .portClear s.cfg.identifyCh s.cfg.identifyBit] := rfl
@[simp] theorem State.setIdentify_result (v : Bool) : (s.setIdentify v).result = s.result := rfl
@[simp] theorem State.setIdentify_input (v : Bool) : (s.setIdentify v).input = s.input := rfl

/-! ## State.present -/

@[simp] theorem State.present_initialized (b : OpBundle) :
    (s.present b).initialized = s.initialized := rfl
@[simp] theorem State.present_cfg (b : OpBundle) : (s.present b).cfg = s.cfg := rfl
@[simp] theorem State.present_sendPresent (b : OpBundle) :
    (s.present b).sendPresent = s.sendPresent := rfl
@[simp] theorem State.present_muted (b : OpBundle) : (s.present b).muted = s.muted := rfl
@[simp] theorem State.present_identifyOn (b : OpBundle) :
    (s.present b).identifyOn = s.identifyOn := rfl
@[simp] theorem State.present_deviceLabel (b : OpBundle) :
    (s.present b).deviceLabel = s.deviceLabel := rfl
@[simp] theorem State.present_txn (b : OpBundle) : (s.present b).txn = s.txn := rfl
@[simp] theorem State.present_events (b : OpBundle) : (s.present b).events = s.events := rfl
@[simp] theorem State.present_result (b : OpBundle) : (s.present b).result = s.result := rfl
@[simp] theorem State.present_input (b : OpBundle) : (s.present b).input = b :: s.input := rfl

/-! ## State.holdReply: it writes a buffer of the transaction only -/

@[simp] theorem State.holdReply_initialized (r : Reply) : (s.holdReply r).initialized = s.initialized := by cases r <;> rfl
@[simp] theorem State.holdReply_cfg (r : Reply) : (s.holdReply r).cfg = s.cfg := by cases r <;> rfl
@[simp] theorem State.holdReply_sendPresent (r : Reply) : (s.holdReply r).sendPresent = s.sendPresent := by cases r <;> rfl
@[simp] theorem State.holdReply_muted (r : Reply) : (s.holdReply r).muted = s.muted := by cases r <;> rfl
@[simp] theorem State.holdReply_identifyOn (r : Reply) : (s.holdReply r).identifyOn = s.identifyOn := by cases r <;> rfl
@[simp] theorem State.holdReply_deviceLabel (r : Reply) : (s.holdReply r).deviceLabel = s.deviceLabel := by cases r <;> rfl
@[simp] theorem State.holdReply_events (r : Reply) : (s.holdReply r).events = s.events := by cases r <;> rfl
@[simp] theorem State.holdReply_result (r : Reply) : (s.holdReply r).result = s.result := by cases r <;> rfl
@[simp] theorem State.holdReply_input (r : Reply) : (s.holdReply r).input = s.input := by cases r <;> rfl

@[simp] theorem State.holdReply_stage (r : Reply) : (s.holdReply r).txn.stage = s.txn.stage := by
  cases r <;> rfl

/-! ## transport: it appends at most one Send -/

/-- The events that stage TRANSPORT appends (R122, R123). -/
def sendsOf (present : Bool) : Reply → List Event
  | .noReply => []
  | .standard frame => if present then [.send true [frame] 1] else []
  | .raw bytes => if present then [.send false [bytes] 1] else []

/-- Stage TRANSPORT in one equation: nothing but the trace changes. -/
theorem transport_eq (r : Reply) :
    transport s r = { s with events := s.events ++ sendsOf s.sendPresent r } := by
  cases r <;> simp only [transport, sendsOf, List.append_nil] <;> split <;>
    simp [State.emit]

@[simp] theorem transport_initialized (r : Reply) : (transport s r).initialized = s.initialized := by
  rw [transport_eq]
@[simp] theorem transport_cfg (r : Reply) : (transport s r).cfg = s.cfg := by
  rw [transport_eq]
@[simp] theorem transport_sendPresent (r : Reply) : (transport s r).sendPresent = s.sendPresent := by
  rw [transport_eq]
@[simp] theorem transport_muted (r : Reply) : (transport s r).muted = s.muted := by
  rw [transport_eq]
@[simp] theorem transport_identifyOn (r : Reply) : (transport s r).identifyOn = s.identifyOn := by
  rw [transport_eq]
@[simp] theorem transport_deviceLabel (r : Reply) : (transport s r).deviceLabel = s.deviceLabel := by
  rw [transport_eq]
@[simp] theorem transport_txn (r : Reply) : (transport s r).txn = s.txn := by
  rw [transport_eq]
@[simp] theorem transport_events (r : Reply) :
    (transport s r).events = s.events ++ sendsOf s.sendPresent r := by rw [transport_eq]
@[simp] theorem transport_result (r : Reply) : (transport s r).result = s.result := by
  rw [transport_eq]
@[simp] theorem transport_input (r : Reply) : (transport s r).input = s.input := by
  rw [transport_eq]

end Sys2Proof.Machine
end

