-- ==== Sys2Proof/Laws/Ops.lean ====
section
/-! SUPPORT. One lemma for each shared operation that says all it can do: admission, guarded reads,
the checksum validator, the encoder, the reply policy. -/

namespace Sys2Proof.Machine

/-! ## Admission -/

theorem whenIdle_next {s t : State} {k : Run} :
    whenIdle s k = .next t ↔ s.txn.stage = .idle ∧ k = .next t := by
  unfold whenIdle
  split <;> simp_all

theorem whenReady_next {s t : State} {k : Run} :
    whenReady s k = .next t ↔ (s.initialized = true ∧ s.txn.stage = .idle) ∧ k = .next t := by
  unfold whenReady
  rw [whenIdle_next]
  split <;> simp_all

theorem whenReady_fault {s : State} {k : Run} {f : Fault} :
    whenReady s k = .fault f ↔ (s.initialized = true ∧ s.txn.stage = .idle) ∧ k = .fault f := by
  unfold whenReady whenIdle
  split <;> simp_all
  split <;> simp_all

theorem whenIdle_of_idle {s : State} {k : Run} (h : s.txn.stage = .idle) : whenIdle s k = k := by
  simp [whenIdle, h]

theorem whenReady_of_ready {s : State} {k : Run} (h : s.initialized = true ∧ s.txn.stage = .idle) :
    whenReady s k = k := by
  simp [whenReady, whenIdle, h]

/-! ## Guarded reads -/

theorem memRead_ok {buf x : List Byte} {i n : Nat} :
    memRead buf i n = .ok x ↔ i + n ≤ buf.length ∧ x = slice buf i n := by
  unfold memRead
  split <;> simp_all [eq_comm]

theorem length_slice {buf : List Byte} {i n : Nat} (h : i + n ≤ buf.length) :
    (slice buf i n).length = n := by
  simp only [slice, List.length_take, List.length_drop]
  omega

/-! ## The checksum validator (R88) -/

/-- On a window of legal size inside the buffer the validator compares sum and trailer. -/
theorem verifyChecksum_eq {buf : List Byte} {n : Nat} (h26 : 26 ≤ n) (hn : n ≤ buf.length) :
    verifyChecksum buf n = .ok (checksum16 (slice buf 0 (n - 2)) ==
      BitVec.ofNat 16 (fromBe (slice buf (n - 2) 2))) := by
  have h1 : memRead buf 0 (n - 2) = .ok (slice buf 0 (n - 2)) := memRead_ok.2 ⟨by omega, rfl⟩
  have h2 : memRead buf (n - 2) 2 = .ok (slice buf (n - 2) 2) := memRead_ok.2 ⟨by omega, rfl⟩
  rw [verifyChecksum, if_neg (by simp only [minFrame, hdrLen, csLen]; omega), h1, h2]

/-- A buffer at least as long as the window is never read outside (R165). -/
theorem verifyChecksum_ne_fault {buf : List Byte} {n : Nat} (hn : n ≤ buf.length) (f : Fault) :
    verifyChecksum buf n ≠ .error f := by
  by_cases h26 : 26 ≤ n
  · rw [verifyChecksum_eq h26 hn]; simp
  · rw [verifyChecksum, if_pos (by simp only [minFrame, hdrLen, csLen]; omega)]; simp

/-! ## The encoder (R103) and the policy (R120) -/

theorem length_standardBody (v : RequestView) (rtype : Byte) (data : List Byte) :
    (standardBody v rtype data).length = 24 + data.length := by
  simp [standardBody]
  omega

theorem buildStandard_ok {v : RequestView} {rtype : Byte} {data frame : List Byte} :
    buildStandard v rtype data = .ok frame ↔ data.length ≤ 231 ∧
      frame = standardBody v rtype data ++ be16 (checksum16 (standardBody v rtype data)) := by
  unfold buildStandard
  split <;> simp_all [eq_comm]

/-- All that the reply policy can answer. -/
theorem replyPolicy_ok {v : RequestView} {result : HandlerResult} {reply : Reply}
    (h : replyPolicy v result = .ok reply) :
    (reply = .noReply ∧ (result = .silent ∨ v.aclass ≠ .unicast)) ∨
    (∃ data frame, result = .ack data ∧ v.aclass = .unicast ∧
      buildStandard v rtAck data = .ok frame ∧ reply = .standard frame) ∨
    (∃ reason frame, result = .nack reason ∧ v.aclass = .unicast ∧
      buildStandard v rtNackReason (be16 reason) = .ok frame ∧ reply = .standard frame) ∨
    (∃ bytes, result = .dub bytes ∧ reply = .raw bytes) := by
  cases result with
  | ack data =>
    simp only [replyPolicy] at h
    split at h
    · next hu =>
      cases hb : buildAck v data with
      | error f => rw [hb] at h; cases h
      | ok frame => rw [hb] at h; cases h; exact .inr (.inl ⟨data, frame, rfl, hu, hb, rfl⟩)
    · next hu => cases h; exact .inl ⟨rfl, .inr hu⟩
  | nack reason =>
    simp only [replyPolicy] at h
    split at h
    · next hu =>
      cases hb : buildNack v reason with
      | error f => rw [hb] at h; cases h
      | ok frame =>
        rw [hb] at h; cases h; exact .inr (.inr (.inl ⟨reason, frame, rfl, hu, hb, rfl⟩))
    · next hu => cases h; exact .inl ⟨rfl, .inr hu⟩
  | dub bytes => cases h; exact .inr (.inr (.inr ⟨bytes, rfl, rfl⟩))
  | silent => cases h; exact .inl ⟨rfl, .inl rfl⟩

end Sys2Proof.Machine
end

