-- ==== Sys2Proof/Laws/Fsm.lean ====
section
/-! SUPPORT. What one HANDLE_REQUEST transaction can do (R113, R125): refused, dropped, or its
handler's effect followed by at most one Send. -/

namespace Sys2Proof.Machine

/-- The state in which stage SUBDEVICE_CHECK starts. -/
def State.atCheck (s : State) (h : RequestHeader) (pd : List Byte) : State :=
  (((s.beginRequest (headerBytes h) pd).setView (decodeView h pd s.cfg.ownUid)).enter
    .addressGate).enter .subdeviceCheck

/-- How a transaction ends: the Send of the reply, and nothing transient left. -/
def State.afterReply (s : State) (reply : Reply) : State :=
  { s with
    events := s.events ++ sendsOf s.sendPresent reply, txn := Transaction.idle, result := none }

/-- The end of a transaction in one equation. -/
theorem replyAndFinish_eq (v : RequestView) (result : HandlerResult) (s : State) :
    replyAndFinish v result s =
      match replyPolicy v result with
      | .error f => .fault f
      | .ok reply => .next (s.afterReply reply) := by
  unfold replyAndFinish
  cases replyPolicy v result with
  | error f => rfl
  | ok reply =>
    simp only [transport_eq]
    cases reply <;> rfl

/-- Behind the gate: the sub-device check, the handler and the reply, in one equation. -/
theorem gate_passed {h : RequestHeader} {pd : List Byte} {d : Handler} {s : State}
    (hg : addressClass h.dest s.cfg.ownUid ≠ .other) :
    gate d (decodeView h pd s.cfg.ownUid) (s.beginRequest (headerBytes h) pd) =
      match checkAndDispatch d (decodeView h pd s.cfg.ownUid) (s.atCheck h pd) with
      | .error f => .fault f
      | .ok (result, s') =>
        match replyPolicy (decodeView h pd s.cfg.ownUid) result with
        | .error f => .fault f
        | .ok reply => .next (s'.afterReply reply) := by
  have hg' : (decodeView h pd s.cfg.ownUid).aclass ≠ .other := hg
  rw [gate, if_neg hg', deliver]
  simp only [replyAndFinish_eq]
  rfl

/-- A request that the gate drops. -/
theorem gate_dropped {h : RequestHeader} {pd : List Byte} {d : Handler} {s : State}
    (hg : addressClass h.dest s.cfg.ownUid = .other) :
    gate d (decodeView h pd s.cfg.ownUid) (s.beginRequest (headerBytes h) pd) = .next s.finish := by
  have hg' : (decodeView h pd s.cfg.ownUid).aclass = .other := hg
  rw [gate, if_pos hg']
  rfl

/-- Everything a transaction that completes can be. -/
theorem transact_next {h : RequestHeader} {pd : List Byte} {pdLen : Nat} {d : Handler}
    {s t : State} (ht : transact h pd pdLen d s = .next t) :
    (s.initialized = true ∧ s.txn.stage = .idle) ∧ paramDataOk pd pdLen = true ∧
    ((decodeCheck h pdLen = false ∧ t = s.finish) ∨
     (decodeCheck h pdLen = true ∧ addressClass h.dest s.cfg.ownUid = .other ∧ t = s.finish) ∨
     (∃ result s' reply, decodeCheck h pdLen = true ∧ addressClass h.dest s.cfg.ownUid ≠ .other ∧
       checkAndDispatch d (decodeView h pd s.cfg.ownUid) (s.atCheck h pd) = .ok (result, s') ∧
       replyPolicy (decodeView h pd s.cfg.ownUid) result = .ok reply ∧
       t = s'.afterReply reply)) := by
  unfold transact at ht
  obtain ⟨hr, ht⟩ := whenReady_next.1 ht
  refine ⟨hr, ?_⟩
  split at ht
  · next hp =>
    refine ⟨hp, ?_⟩
    split at ht
    · next hd =>
      by_cases hg : addressClass h.dest s.cfg.ownUid = .other
      · rw [gate_dropped hg] at ht
        cases ht
        exact .inr (.inl ⟨hd, hg, rfl⟩)
      · rw [gate_passed hg] at ht
        split at ht
        · cases ht
        · next result s' hc =>
          split at ht
          · cases ht
          · next reply hp' =>
            cases ht
            exact .inr (.inr ⟨result, s', reply, hd, hg, hc, hp', rfl⟩)
    · next hd => cases ht; exact .inl ⟨by simpa using hd, rfl⟩
  · cases ht

/-- Everything a transaction that faults can be. -/
theorem transact_fault {h : RequestHeader} {pd : List Byte} {pdLen : Nat} {d : Handler}
    {s : State} {f : Fault} (ht : transact h pd pdLen d s = .fault f) :
    (s.initialized = true ∧ s.txn.stage = .idle) ∧ paramDataOk pd pdLen = true ∧ decodeCheck h pdLen = true ∧
    (checkAndDispatch d (decodeView h pd s.cfg.ownUid) (s.atCheck h pd) = .error f ∨
     ∃ result s', checkAndDispatch d (decodeView h pd s.cfg.ownUid) (s.atCheck h pd) =
       .ok (result, s') ∧ replyPolicy (decodeView h pd s.cfg.ownUid) result = .error f) := by
  unfold transact at ht
  obtain ⟨hr, ht⟩ := whenReady_fault.1 ht
  refine ⟨hr, ?_⟩
  split at ht
  · next hp =>
    refine ⟨hp, ?_⟩
    split at ht
    · next hd =>
      refine ⟨hd, ?_⟩
      by_cases hg : addressClass h.dest s.cfg.ownUid = .other
      · rw [gate_dropped hg] at ht
        cases ht
      · rw [gate_passed hg] at ht
        split at ht
        · next hc => cases ht; exact .inl hc
        · next result s' hc =>
          split at ht
          · next hp' => cases ht; exact .inr ⟨result, s', hc, hp'⟩
          · cases ht
    · cases ht
  · cases ht

/-- A request that reaches stage SUBDEVICE_CHECK: what the rest of the transaction answers. -/
theorem transact_delivered {h : RequestHeader} {pd : List Byte} {pdLen : Nat} {d : Handler}
    {s s' : State} {result : HandlerResult} {reply : Reply}
    (hr : s.initialized = true ∧ s.txn.stage = .idle) (hp : paramDataOk pd pdLen = true)
    (hd : decodeCheck h pdLen = true) (hg : addressClass h.dest s.cfg.ownUid ≠ .other)
    (hc : checkAndDispatch d (decodeView h pd s.cfg.ownUid) (s.atCheck h pd) = .ok (result, s'))
    (hpol : replyPolicy (decodeView h pd s.cfg.ownUid) result = .ok reply) :
    transact h pd pdLen d s = .next (s'.afterReply reply) := by
  unfold transact
  rw [whenReady_of_ready hr, if_pos hp, if_pos hd, gate_passed hg, hc]
  simp only [hpol]

/-- A dropped request (R99, R115): nothing but the last operation's result changes. -/
theorem transact_dropped {h : RequestHeader} {pd : List Byte} {pdLen : Nat} {d : Handler}
    {s : State} (hr : s.initialized = true ∧ s.txn.stage = .idle) (hp : paramDataOk pd pdLen = true)
    (hd : decodeCheck h pdLen = false ∨ addressClass h.dest s.cfg.ownUid = .other) :
    transact h pd pdLen d s = .next s.finish := by
  unfold transact
  rw [whenReady_of_ready hr, if_pos hp]
  by_cases hc : decodeCheck h pdLen = true
  · have hg : addressClass h.dest s.cfg.ownUid = .other := by simpa [hc] using hd
    rw [if_pos hc, gate_dropped hg]
  · rw [if_neg hc]
    rfl

/-! ## The transient state before the handler, field by field -/

section
variable (s : State) (h : RequestHeader) (pd : List Byte)

@[simp] theorem State.atCheck_initialized : (s.atCheck h pd).initialized = s.initialized := rfl
@[simp] theorem State.atCheck_cfg : (s.atCheck h pd).cfg = s.cfg := rfl
@[simp] theorem State.atCheck_sendPresent : (s.atCheck h pd).sendPresent = s.sendPresent := rfl
@[simp] theorem State.atCheck_muted : (s.atCheck h pd).muted = s.muted := rfl
@[simp] theorem State.atCheck_identifyOn : (s.atCheck h pd).identifyOn = s.identifyOn := rfl
@[simp] theorem State.atCheck_deviceLabel : (s.atCheck h pd).deviceLabel = s.deviceLabel := rfl
@[simp] theorem State.atCheck_events : (s.atCheck h pd).events = s.events := rfl
@[simp] theorem State.atCheck_input : (s.atCheck h pd).input = s.input := rfl

end

/-! ## The request view (R100) and a request kind's header, field by field -/

section
variable (h : RequestHeader) (pd : List Byte) (own : Uid)

@[simp] theorem decodeView_msgLen : (decodeView h pd own).msgLen = h.msgLen := rfl
@[simp] theorem decodeView_dest : (decodeView h pd own).dest = h.dest := rfl
@[simp] theorem decodeView_src : (decodeView h pd own).src = h.src := rfl
@[simp] theorem decodeView_tn : (decodeView h pd own).tn = h.tn := rfl
@[simp] theorem decodeView_portId : (decodeView h pd own).portId = h.portId := rfl
@[simp] theorem decodeView_msgCount : (decodeView h pd own).msgCount = h.msgCount := rfl
@[simp] theorem decodeView_subDevice : (decodeView h pd own).subDevice = h.subDevice := rfl
@[simp] theorem decodeView_cc : (decodeView h pd own).cc = h.cc := rfl
@[simp] theorem decodeView_pid : (decodeView h pd own).pid = h.pid := rfl
@[simp] theorem decodeView_pdl : (decodeView h pd own).pdl = h.pdl := rfl
@[simp] theorem decodeView_payload : (decodeView h pd own).payload = pd := rfl
@[simp] theorem decodeView_aclass :
    (decodeView h pd own).aclass = addressClass h.dest own := rfl

end

section
variable (r : RequestOperands) (cc : Byte) (pid : Word16)

@[simp] theorem operandsHeader_startCode : (operandsHeader r cc pid).startCode = r.startCode := rfl
@[simp] theorem operandsHeader_subStartCode :
    (operandsHeader r cc pid).subStartCode = r.subStartCode := rfl
@[simp] theorem operandsHeader_msgLen : (operandsHeader r cc pid).msgLen = r.msgLen := rfl
@[simp] theorem operandsHeader_dest : (operandsHeader r cc pid).dest = r.dest := rfl
@[simp] theorem operandsHeader_src : (operandsHeader r cc pid).src = r.src := rfl
@[simp] theorem operandsHeader_tn : (operandsHeader r cc pid).tn = r.tn := rfl
@[simp] theorem operandsHeader_portId : (operandsHeader r cc pid).portId = r.portId := rfl
@[simp] theorem operandsHeader_msgCount : (operandsHeader r cc pid).msgCount = r.msgCount := rfl
@[simp] theorem operandsHeader_subDevice : (operandsHeader r cc pid).subDevice = r.subDevice := rfl
@[simp] theorem operandsHeader_cc : (operandsHeader r cc pid).cc = cc := rfl
@[simp] theorem operandsHeader_pid : (operandsHeader r cc pid).pid = pid := rfl
@[simp] theorem operandsHeader_pdl : (operandsHeader r cc pid).pdl = r.pdl := rfl

end

end Sys2Proof.Machine
end

