-- ==== Sys2Proof/Laws/Handlers.lean ====
section
/-! SUPPORT. What each handler can do, what the lookup in the dispatch table can find, and what a
whole transaction does in terms of the state it starts from: no handler reads or writes the transient
state, so it drops out of every statement about a transaction. -/

namespace Sys2Proof.Machine

/-! ## Lookup in a table of keys -/

theorem lookup_eq_none {β : Type} {key : Key} {l : List (Key × β)}
    (h : (l.map Prod.fst).contains key = false) : l.lookup key = none := by
  induction l with
  | nil => rfl
  | cons a l ih =>
    rw [List.map_cons, List.contains_cons, Bool.or_eq_false_iff] at h
    rw [List.lookup_cons, h.1]
    exact ih h.2

theorem mem_of_lookup {β : Type} {key : Key} {v : β} {l : List (Key × β)}
    (h : l.lookup key = some v) : (key, v) ∈ l := by
  induction l with
  | nil => cases h
  | cons a l ih =>
    rw [List.lookup_cons] at h
    split at h
    · next hk =>
      cases h
      rw [beq_iff_eq] at hk
      simp [hk]
    · exact List.mem_cons_of_mem _ (ih h)

/-- The keys of both tables are the twelve of R76. -/
theorem keys_of_requestTable : requestTable.map Prod.fst = requestKeys := rfl
theorem keys_of_handlerTable : handlerTable.map Prod.fst = requestKeys := rfl

/-! ## The handlers, one by one -/

/-- R137, R150. -/
theorem handleGet_ok {data : State → List Byte} {v : RequestView} {s s' : State}
    {result : HandlerResult} (h : handleGet data v s = .ok (result, s')) :
    s' = s ∧ (v.pdl = 0 ∧ result = .ack (data s) ∨ v.pdl ≠ 0 ∧ result = .nack nrFormatError) := by
  unfold handleGet at h
  split at h
  · next hp => cases h; exact ⟨rfl, .inl ⟨hp, rfl⟩⟩
  · next hp => cases h; exact ⟨rfl, .inr ⟨hp, rfl⟩⟩

/-- R127. -/
theorem handleDiscMute_ok {v : RequestView} {s s' : State} {result : HandlerResult}
    (h : handleDiscMute v s = .ok (result, s')) :
    (v.pdl = 0 ∧ result = .ack (be16 muteControlField) ∧ s' = s.setMuted true) ∨
    (v.pdl ≠ 0 ∧ result = .nack nrFormatError ∧ s' = s) := by
  unfold handleDiscMute at h
  split at h
  · next hp => cases h; exact .inl ⟨hp, rfl, rfl⟩
  · next hp => cases h; exact .inr ⟨hp, rfl, rfl⟩

/-- R128. -/
theorem handleDiscUnMute_ok {v : RequestView} {s s' : State} {result : HandlerResult}
    (h : handleDiscUnMute v s = .ok (result, s')) :
    (v.pdl = 0 ∧ result = .ack (be16 muteControlField) ∧ s' = s.setMuted false) ∨
    (v.pdl ≠ 0 ∧ result = .nack nrFormatError ∧ s' = s) := by
  unfold handleDiscUnMute at h
  split at h
  · next hp => cases h; exact .inl ⟨hp, rfl, rfl⟩
  · next hp => cases h; exact .inr ⟨hp, rfl, rfl⟩

/-- R130, R134. -/
theorem handleDiscUniqueBranch_ok {v : RequestView} {s s' : State} {result : HandlerResult}
    (h : handleDiscUniqueBranch v s = .ok (result, s')) :
    s' = s ∧ (result = .silent ∨
      (s.muted = false ∧ v.pdl = 12 ∧ result = .dub (buildDub s.cfg.ownUid))) := by
  unfold handleDiscUniqueBranch at h
  split at h
  · cases h; exact ⟨rfl, .inl rfl⟩
  · next hm =>
    split at h
    · next hp =>
      split at h
      · split at h
        · cases h; exact ⟨rfl, .inr ⟨by simpa using hm, hp, rfl⟩⟩
        · cases h; exact ⟨rfl, .inl rfl⟩
      · cases h
      · cases h
    · cases h; exact ⟨rfl, .inl rfl⟩

/-- R146. -/
theorem handleSetDeviceLabel_ok {v : RequestView} {s s' : State} {result : HandlerResult}
    (h : handleSetDeviceLabel v s = .ok (result, s')) :
    (v.pdl.toNat ≤ 32 ∧ v.pdl.toNat ≤ v.payload.length ∧ result = .ack [] ∧
      s' = s.setDeviceLabel (slice v.payload 0 v.pdl.toNat)) ∨
    (32 < v.pdl.toNat ∧ result = .nack nrFormatError ∧ s' = s) := by
  unfold handleSetDeviceLabel at h
  split at h
  · next hp =>
    split at h
    · next label hm =>
      obtain ⟨hl, rfl⟩ := memRead_ok.1 hm
      cases h
      exact .inl ⟨hp, by omega, rfl, rfl⟩
    · cases h
  · next hp => cases h; exact .inr ⟨by simpa using hp, rfl, rfl⟩

/-- R148. -/
theorem handleSetIdentifyDevice_ok {v : RequestView} {s s' : State} {result : HandlerResult}
    (h : handleSetIdentifyDevice v s = .ok (result, s')) :
    (v.pdl = 1 ∧ result = .ack [] ∧
      s' = s.setIdentify (slot (slice v.payload 0 1) 0 != 0x00)) ∨
    (v.pdl ≠ 1 ∧ result = .nack nrFormatError ∧ s' = s) := by
  unfold handleSetIdentifyDevice at h
  split at h
  · next hp =>
    split at h
    · next command hm =>
      obtain ⟨-, rfl⟩ := memRead_ok.1 hm
      cases h
      exact .inl ⟨hp, rfl, rfl⟩
    · cases h
  · next hp => cases h; exact .inr ⟨hp, rfl, rfl⟩

/-! ## No handler reads or writes the transient state -/

/-- The state with other transient state. -/
def State.withTxn (s : State) (x : Transaction) : State := { s with txn := x }

/-- A handler whose result and effect do not depend on the transient state, and that keeps it. -/
def TxnBlind (d : Handler) : Prop :=
  ∀ (v : RequestView) (s : State) (x : Transaction),
    d v (s.withTxn x) = (d v s).map fun p => (p.1, p.2.withTxn x)

theorem handleGet_txnBlind {data : State → List Byte}
    (hd : ∀ (s : State) (x : Transaction), data (s.withTxn x) = data s) :
    TxnBlind (handleGet data) := by
  intro v s x
  unfold handleGet
  split
  · rw [hd]; rfl
  · rfl

theorem handleDiscMute_txnBlind : TxnBlind handleDiscMute := by
  intro v s x; unfold handleDiscMute; split <;> rfl

theorem handleDiscUnMute_txnBlind : TxnBlind handleDiscUnMute := by
  intro v s x; unfold handleDiscUnMute; split <;> rfl

theorem handleDiscUniqueBranch_txnBlind : TxnBlind handleDiscUniqueBranch := by
  intro v s x
  have hm : (s.withTxn x).muted = s.muted := rfl
  have hc : (s.withTxn x).cfg = s.cfg := rfl
  unfold handleDiscUniqueBranch
  rw [hm, hc]
  split
  · rfl
  · split
    · split
      · split <;> rfl
      · rfl
      · rfl
    · rfl

theorem handleSetDeviceLabel_txnBlind : TxnBlind handleSetDeviceLabel := by
  intro v s x
  unfold handleSetDeviceLabel
  split
  · split <;> rfl
  · rfl

theorem handleSetIdentifyDevice_txnBlind : TxnBlind handleSetIdentifyDevice := by
  intro v s x
  unfold handleSetIdentifyDevice
  split
  · split <;> rfl
  · rfl

/-- Every row of the dispatch table. -/
theorem handlerTable_txnBlind : ∀ p ∈ handlerTable, TxnBlind p.2 := by
  simp only [handlerTable, List.forall_mem_cons]
  refine ⟨handleDiscUniqueBranch_txnBlind, handleDiscMute_txnBlind, handleDiscUnMute_txnBlind,
    handleGet_txnBlind fun _ _ => rfl, handleGet_txnBlind fun _ _ => rfl,
    handleGet_txnBlind fun _ _ => rfl, handleGet_txnBlind fun _ _ => rfl,
    handleGet_txnBlind fun _ _ => rfl, handleSetDeviceLabel_txnBlind,
    handleGet_txnBlind fun _ _ => rfl, handleGet_txnBlind fun _ _ => rfl,
    handleSetIdentifyDevice_txnBlind, ?_⟩
  intro p hp
  cases hp

theorem dispatchByKey_txnBlind : TxnBlind dispatchByKey := by
  intro v s x
  unfold dispatchByKey
  split
  · split
    · next d hd => exact handlerTable_txnBlind _ (mem_of_lookup hd) v s x
    · rfl
  · rfl

/-! ## A transaction in terms of the state it starts from -/

/-- The sub-device check and the handler (R116, R119), on the state the transaction starts from. -/
def outcomeOf (d : Handler) (v : RequestView) (s : State) : Except Fault (HandlerResult × State) :=
  if v.subDevice = 0 then d v s else .ok (.nack nrSubDeviceOutOfRange, s)

theorem State.afterReply_withTxn (s : State) (x : Transaction) (reply : Reply) :
    (s.withTxn x).afterReply reply = s.afterReply reply := rfl

/-- The stages before the handler only touch the transient state. -/
theorem checkAndDispatch_atCheck {d : Handler} (hd : TxnBlind d) (v : RequestView) (s : State)
    (h : RequestHeader) (pd : List Byte) :
    ∃ x, checkAndDispatch d v (s.atCheck h pd) =
      (outcomeOf d v s).map fun p => (p.1, p.2.withTxn x) := by
  unfold checkAndDispatch outcomeOf
  split
  · exact ⟨_, hd v s ((s.atCheck h pd).enter .dispatch).txn⟩
  · exact ⟨(s.atCheck h pd).txn, rfl⟩

/-- Everything a transaction that completes can be, from the state it starts in. -/
theorem transact_next_outcome {h : RequestHeader} {pd : List Byte} {pdLen : Nat} {d : Handler}
    (hb : TxnBlind d) {s t : State} (ht : transact h pd pdLen d s = .next t) :
    (s.initialized = true ∧ s.txn.stage = .idle) ∧ paramDataOk pd pdLen = true ∧
    ((decodeCheck h pdLen = false ∧ t = s.finish) ∨
     (decodeCheck h pdLen = true ∧ addressClass h.dest s.cfg.ownUid = .other ∧ t = s.finish) ∨
     (∃ result s' reply, decodeCheck h pdLen = true ∧ addressClass h.dest s.cfg.ownUid ≠ .other ∧
       outcomeOf d (decodeView h pd s.cfg.ownUid) s = .ok (result, s') ∧
       replyPolicy (decodeView h pd s.cfg.ownUid) result = .ok reply ∧
       t = s'.afterReply reply)) := by
  obtain ⟨hr, hp, hcases⟩ := transact_next ht
  refine ⟨hr, hp, ?_⟩
  obtain hdrop | hdrop | ⟨result, s', reply, hdc, hg, hc, hpol, rfl⟩ := hcases
  · exact .inl hdrop
  · exact .inr (.inl hdrop)
  · refine .inr (.inr ?_)
    obtain ⟨x, hx⟩ := checkAndDispatch_atCheck hb (decodeView h pd s.cfg.ownUid) s h pd
    rw [hx] at hc
    cases ho : outcomeOf d (decodeView h pd s.cfg.ownUid) s with
    | error f => rw [ho] at hc; cases hc
    | ok p =>
      rw [ho] at hc
      cases hc
      exact ⟨p.1, p.2, reply, hdc, hg, rfl, hpol, State.afterReply_withTxn _ _ _⟩

/-- A request that passes decode and gate: what the transaction answers, from the state it starts
in. -/
theorem transact_passed {h : RequestHeader} {pd : List Byte} {pdLen : Nat} {d : Handler}
    (hb : TxnBlind d) {s : State} (hr : s.initialized = true ∧ s.txn.stage = .idle)
    (hp : paramDataOk pd pdLen = true) (hd : decodeCheck h pdLen = true)
    (hg : addressClass h.dest s.cfg.ownUid ≠ .other) :
    transact h pd pdLen d s =
      match outcomeOf d (decodeView h pd s.cfg.ownUid) s with
      | .error f => .fault f
      | .ok (result, s') =>
        match replyPolicy (decodeView h pd s.cfg.ownUid) result with
        | .error f => .fault f
        | .ok reply => .next (s'.afterReply reply) := by
  unfold transact
  rw [whenReady_of_ready hr, if_pos hp, if_pos hd, gate_passed hg]
  obtain ⟨x, hx⟩ := checkAndDispatch_atCheck hb (decodeView h pd s.cfg.ownUid) s h pd
  rw [hx]
  cases outcomeOf d (decodeView h pd s.cfg.ownUid) s with
  | error f => rfl
  | ok p => rfl

/-- Everything a transaction that faults can be, from the state it starts in. -/
theorem transact_fault_outcome {h : RequestHeader} {pd : List Byte} {pdLen : Nat} {d : Handler}
    (hb : TxnBlind d) {s : State} {f : Fault} (ht : transact h pd pdLen d s = .fault f) :
    (s.initialized = true ∧ s.txn.stage = .idle) ∧ paramDataOk pd pdLen = true ∧
    decodeCheck h pdLen = true ∧
    (outcomeOf d (decodeView h pd s.cfg.ownUid) s = .error f ∨
     ∃ result s', outcomeOf d (decodeView h pd s.cfg.ownUid) s = .ok (result, s') ∧
       replyPolicy (decodeView h pd s.cfg.ownUid) result = .error f) := by
  obtain ⟨hr, hp, hdc, hcases⟩ := transact_fault ht
  refine ⟨hr, hp, hdc, ?_⟩
  obtain ⟨x, hx⟩ := checkAndDispatch_atCheck hb (decodeView h pd s.cfg.ownUid) s h pd
  rw [hx] at hcases
  cases ho : outcomeOf d (decodeView h pd s.cfg.ownUid) s with
  | error g =>
    rw [ho] at hcases
    obtain hc | ⟨_, _, hc, _⟩ := hcases
    · cases hc; exact .inl rfl
    · cases hc
  | ok p =>
    rw [ho] at hcases
    obtain hc | ⟨_, _, hc, hpol⟩ := hcases
    · cases hc
    · cases hc; exact .inr ⟨_, _, rfl, hpol⟩

/-! ## The dispatch table, row by row -/

/-- A handler that the table finds, with its key. -/
theorem handlerOfKey_some {key : Key} {d : Handler} (h : handlerOfKey key = some d) :
    (key, d) ∈ handlerTable := mem_of_lookup h

/-- A key that is no row of R76. -/
theorem handlerOfKey_none {key : Key} (h : requestKeys.contains key = false) :
    handlerOfKey key = none := lookup_eq_none h

/-- Everything stage DISPATCH can do (R117 to R119): which key writes which register, and what the
result is. -/
inductive DispatchEffect (s : State) (key : Key) : HandlerResult → State → Prop where
  | nack (reason : Word16) : DispatchEffect s key (.nack reason) s
  | silent : key = 0x100001 → DispatchEffect s key .silent s
  | dub : key = 0x100001 → s.muted = false →
      DispatchEffect s key (.dub (buildDub s.cfg.ownUid)) s
  | get (data : List Byte) :
      (cfgValid s.cfg = true → s.deviceLabel.length ≤ 32 → data.length ≤ 231) →
      DispatchEffect s key (.ack data) s
  | mute : key = 0x100002 → DispatchEffect s key (.ack (be16 muteControlField)) (s.setMuted true)
  | unMute : key = 0x100003 →
      DispatchEffect s key (.ack (be16 muteControlField)) (s.setMuted false)
  | label (l : List Byte) : key = 0x300082 → l.length ≤ 32 →
      DispatchEffect s key (.ack []) (s.setDeviceLabel l)
  | identify (v : Bool) : key = 0x301000 → DispatchEffect s key (.ack []) (s.setIdentify v)

theorem length_supportedPd (pids : List Word16) : (supportedPd pids).length = 2 * pids.length := by
  induction pids with
  | nil => rfl
  | cons a l ih =>
    simp only [supportedPd, List.flatMap_cons, List.length_append, length_be16,
      List.length_cons] at *
    omega

/-- The labels and lists of a configuration that meets R9 fit into a reply. -/
theorem cfgValid_lengths {c : Cfg} (h : cfgValid c = true) :
    c.supportedPids.length ≤ 115 ∧ c.modelDescription.length ≤ 32 ∧
      c.manufacturerLabel.length ≤ 32 ∧ c.softwareVersionLabel.length ≤ 32 ∧
      c.defaultDeviceLabel.length ≤ 32 := by
  simp only [cfgValid, Bool.and_eq_true, decide_eq_true_eq] at h
  exact ⟨h.1.1.1.1.2, h.1.1.1.2, h.1.1.2, h.1.2, h.2⟩

/-- The effect of a GET row. -/
theorem handleGet_effect {data : State → List Byte} {v : RequestView} {s s' : State} {key : Key}
    {result : HandlerResult} (h : handleGet data v s = .ok (result, s'))
    (hl : cfgValid s.cfg = true → s.deviceLabel.length ≤ 32 → (data s).length ≤ 231) :
    DispatchEffect s key result s' := by
  obtain ⟨rfl, ⟨-, rfl⟩ | ⟨-, rfl⟩⟩ := handleGet_ok h
  · exact .get _ hl
  · exact .nack _

/-- One inversion for the whole of stage DISPATCH. -/
theorem dispatchByKey_effect {v : RequestView} {s s' : State} {result : HandlerResult}
    (h : dispatchByKey v s = .ok (result, s')) :
    DispatchEffect s (dispatchKey v.cc v.pid) result s' := by
  unfold dispatchByKey at h
  split at h
  case isFalse => cases h; exact .nack _
  split at h
  case h_2 => cases h; exact .nack _
  next d hd =>
    have hm := handlerOfKey_some hd
    generalize dispatchKey v.cc v.pid = key at *
    simp only [handlerTable, List.mem_cons, List.not_mem_nil, or_false, Prod.mk.injEq] at hm
    obtain ⟨hk, rfl⟩ | ⟨hk, rfl⟩ | ⟨hk, rfl⟩ | ⟨hk, rfl⟩ | ⟨hk, rfl⟩ | ⟨hk, rfl⟩ | ⟨hk, rfl⟩ |
      ⟨hk, rfl⟩ | ⟨hk, rfl⟩ | ⟨hk, rfl⟩ | ⟨hk, rfl⟩ | ⟨hk, rfl⟩ := hm
    · obtain ⟨rfl, rfl | ⟨hu, -, rfl⟩⟩ := handleDiscUniqueBranch_ok h
      · exact .silent hk
      · exact .dub hk hu
    · obtain ⟨-, rfl, rfl⟩ | ⟨-, rfl, rfl⟩ := handleDiscMute_ok h
      · exact .mute hk
      · exact .nack _
    · obtain ⟨-, rfl, rfl⟩ | ⟨-, rfl, rfl⟩ := handleDiscUnMute_ok h
      · exact .unMute hk
      · exact .nack _
    · refine handleGet_effect h fun hc _ => ?_
      rw [length_supportedPd]
      have := (cfgValid_lengths hc).1
      omega
    · exact handleGet_effect h fun _ _ => by simp [deviceInfoPd]
    · exact handleGet_effect h fun hc _ => (cfgValid_lengths hc).2.1.trans (by decide)
    · exact handleGet_effect h fun hc _ => (cfgValid_lengths hc).2.2.1.trans (by decide)
    · exact handleGet_effect h fun _ hl => hl.trans (by decide)
    · obtain ⟨hl, hp, rfl, rfl⟩ | ⟨-, rfl, rfl⟩ := handleSetDeviceLabel_ok h
      · exact .label _ hk (by rw [length_slice (by omega)]; exact hl)
      · exact .nack _
    · exact handleGet_effect h fun hc _ => (cfgValid_lengths hc).2.2.2.1.trans (by decide)
    · exact handleGet_effect h fun _ _ => by simp [identifyPd]
    · obtain ⟨-, rfl, rfl⟩ | ⟨-, rfl, rfl⟩ := handleSetIdentifyDevice_ok h
      · exact .identify _ hk
      · exact .nack _

end Sys2Proof.Machine
end

