-- ==== Sys2Proof/Laws/PerInstr.lean ====
section
/-! SUPPORT. The statement families made per instruction, one lemma per constructor of `Instr`.

`EncodesKey`: an instruction's bundle carries one of the five selects (R57), and an instruction that
presents a request carries HANDLE_REQUEST's select and, in slots 20..22 of its header, its dispatch
key (R71, R76). -/

namespace Sys2Proof.Laws.EncodesKey

/-- The dispatch key in the header of a bundle. -/
def bundleKey (b : OpBundle) : Option Key :=
  (headerOfBytes b.hdr).map fun h => dispatchKey h.cc h.pid

/-- R57, R71, R76. -/
def Statement (i : Instr) : Prop :=
  (encode i).op.toNat ≤ 4 ∧
    ∀ k, Machine.keyOf i = some k → (encode i).op = 0b011 ∧ bundleKey (encode i) = some k

/-- A request kind: its bundle's header reads back as the header of its own class and PID. -/
theorem kind (r : RequestOperands) (cc : Byte) (pid : Word16) {k : Key}
    (hk : dispatchKey cc pid = k) :
    (kindBundle r cc pid).op.toNat ≤ 4 ∧
      ∀ k', some k = some k' →
        (kindBundle r cc pid).op = 0b011 ∧ bundleKey (kindBundle r cc pid) = some k' := by
  refine ⟨Nat.le_of_ble_eq_true rfl, fun k' h => ⟨rfl, ?_⟩⟩
  cases h
  simp only [bundleKey, kindBundle, requestBundle, headerOfBytes_headerBytes, Option.map_some]
  exact congrArg some hk

theorem init (cfg : Cfg) (sendPresent : Bool) : Statement (.init cfg sendPresent) :=
  ⟨Nat.le_of_ble_eq_true rfl, fun _ h => by cases h⟩

theorem verifyChecksum (buf : List Byte) (length : Nat) :
    Statement (.verifyChecksum buf length) := ⟨Nat.le_of_ble_eq_true rfl, fun _ h => by cases h⟩

theorem requiresAction (dest : Uid) : Statement (.requiresAction dest) :=
  ⟨Nat.le_of_ble_eq_true rfl, fun _ h => by cases h⟩

theorem handleRequest (hdr pd : List Byte) (pdLen : Nat) :
    Statement (.handleRequest hdr pd pdLen) := ⟨Nat.le_of_ble_eq_true rfl, fun _ h => ⟨rfl, h⟩⟩

theorem isMuted : Statement .isMuted := ⟨Nat.le_of_ble_eq_true rfl, fun _ h => by cases h⟩

theorem discUniqueBranch (r : RequestOperands) : Statement (.discUniqueBranch r) :=
  kind r _ _ (by decide)

theorem discMute (r : RequestOperands) : Statement (.discMute r) := kind r _ _ (by decide)

theorem discUnMute (r : RequestOperands) : Statement (.discUnMute r) := kind r _ _ (by decide)

theorem getSupportedParameters (r : RequestOperands) : Statement (.getSupportedParameters r) :=
  kind r _ _ (by decide)

theorem getDeviceInfo (r : RequestOperands) : Statement (.getDeviceInfo r) :=
  kind r _ _ (by decide)

theorem getDeviceModelDescription (r : RequestOperands) :
    Statement (.getDeviceModelDescription r) := kind r _ _ (by decide)

theorem getManufacturerLabel (r : RequestOperands) : Statement (.getManufacturerLabel r) :=
  kind r _ _ (by decide)

theorem getDeviceLabel (r : RequestOperands) : Statement (.getDeviceLabel r) :=
  kind r _ _ (by decide)

theorem setDeviceLabel (r : RequestOperands) : Statement (.setDeviceLabel r) :=
  kind r _ _ (by decide)

theorem getSoftwareVersionLabel (r : RequestOperands) : Statement (.getSoftwareVersionLabel r) :=
  kind r _ _ (by decide)

theorem getIdentifyDevice (r : RequestOperands) : Statement (.getIdentifyDevice r) :=
  kind r _ _ (by decide)

theorem setIdentifyDevice (r : RequestOperands) : Statement (.setIdentifyDevice r) :=
  kind r _ _ (by decide)

end Sys2Proof.Laws.EncodesKey
end

