-- ==== Sys2Proof/Laws/Safety.lean ====
section
/-! SUPPORT. The conditions of Safety.lean against the checks that the machine computes, and the
replies of Safety.lean against what the encoder and the reply policy build. -/

namespace Sys2Proof.Machine

/-- R99. -/
theorem decodeCheck_iff {h : RequestHeader} {pdLen : Nat} :
    decodeCheck h pdLen = true ↔ PassesDecode h pdLen := by
  simp [decodeCheck, PassesDecode, startCodeValue, subStartCodeValue, hdrLen, and_assoc]

/-- R58. -/
theorem paramDataOk_iff {pd : List Byte} {pdLen : Nat} :
    paramDataOk pd pdLen = true ↔ OperandsOk pd pdLen := by
  simp [paramDataOk, OperandsOk, maxPdl]

/-- R103: what the encoder builds is the frame of the slot table. -/
theorem buildStandard_eq_replyFrame (v : RequestView) (rtype : Byte) {data : List Byte}
    (hl : data.length ≤ 231) :
    buildStandard v rtype data =
      .ok (replyFrame v.src v.dest v.tn rtype v.subDevice (v.cc + 1) v.pid data) :=
  if_pos hl

/-- How a transaction ends, in the terms of the statements. -/
theorem afterReply_eq_completed (s : State) (reply : Reply) :
    s.afterReply reply = s.completed (sendsOf s.sendPresent reply) := rfl

/-! ## Runs -/

@[simp] theorem execAll_nil (s : State) : execAll [] s = .next s := rfl

/-- A run that completes: its first operation does, and so does the rest from there. -/
theorem execAll_cons_next {i : Instr} {rest : List Instr} {s w : State} :
    execAll (i :: rest) s = .next w ↔ ∃ t, exec i s = .next t ∧ execAll rest t = .next w := by
  rw [execAll]
  cases exec i s with
  | next t => exact ⟨fun h => ⟨t, rfl, h⟩, fun ⟨_, ht, h⟩ => by cases ht; exact h⟩
  | fault f => exact ⟨fun h => (by cases h), fun ⟨_, ht, _⟩ => (by cases ht)⟩
  | refused r => exact ⟨fun h => (by cases h), fun ⟨_, ht, _⟩ => (by cases ht)⟩

/-- What every operation of a completed run keeps, the run keeps. -/
theorem execAll_induction {P : State → Prop} {ops : List Instr} {s w : State}
    (hstep : ∀ i ∈ ops, ∀ a b, P a → exec i a = .next b → P b) (hs : P s)
    (hw : execAll ops s = .next w) : P w := by
  induction ops generalizing s with
  | nil => cases hw; exact hs
  | cons i rest ih =>
    obtain ⟨t, ht, hr⟩ := execAll_cons_next.1 hw
    exact ih (fun j hj => hstep j (List.mem_cons_of_mem _ hj))
      (hstep i List.mem_cons_self s t hs ht) hr

end Sys2Proof.Machine
end

