-- ==== Sys2Proof/Tests/Slice0.lean ====
section
/-! SUPPORT. Tests. The expected bytes are those of spec/95_test_vectors.md, which spec/ derives from
its rules; each test names its vector. Frames are written whole, with their checksum slots. -/

namespace Sys2Proof.Tests

open Sys2Proof.Machine

/-! ## The example configuration (spec/95_test_vectors.md section 2) -/

def own : Uid := 0x7A7012345678
def controller : Uid := 0x123456789ABC

def exampleCfg : Cfg :=
  { ownUid := own, identifyCh := 1, identifyBit := 2, muteCh := 3, muteBit := 4
    deviceInfo :=
      { modelId := 0x0001, productCategory := 0x0100, softwareVersionId := 0x00000001
        dmxFootprint := 0x0000, personalityCurrent := 1, personalityCount := 1
        dmxStartAddress := 0xFFFF, sensorCount := 0 }
    supportedPids := [0x0080, 0x0081, 0x0082]
    modelDescription := [0x4A, 0x61, 0x20, 0x52, 0x75, 0x6C, 0x65]
    manufacturerLabel := [0x4F, 0x4C, 0x50]
    softwareVersionLabel := [0x76, 0x31]
    defaultDeviceLabel := [] }

/-- The state right after `INIT cfg`. -/
def ready : State :=
  { State.reset with initialized := true, cfg := exampleCfg, sendPresent := true }

/-- A request of the example controller with port 1 and sub-device 0. -/
def req (dest : Uid) (tn : Byte) (pd : List Byte) : RequestOperands :=
  assembleRequest dest controller tn 1 0 pd

/-- The state after an operation; State.reset where there is none. -/
def after : Host.Outcome State Fault Refusal → State
  | .next t => t
  | .fault _ => State.reset
  | .refused _ => State.reset

/-- Whether an operation completes. -/
def completes : Host.Outcome State Fault Refusal → Bool
  | .next _ => true
  | .fault _ => false
  | .refused _ => false

theorem next_after {o : Host.Outcome State Fault Refusal} (h : completes o = true) :
    o = .next (after o) := by
  cases o with
  | next t => rfl
  | fault f => cases h
  | refused r => cases h

/-- The step that a whole frame on the wire brings about; the frame must be a request frame. -/
def receive (frame : List Byte) (s : State) : Host.Outcome State Fault Refusal :=
  match bundleOfFrame frame with
  | some b => step (s.present b)
  | none => .fault .readOutOfBounds

/-- The events that a frame appends to an empty trace. -/
def eventsOf (frame : List Byte) (s : State) : List Event := (after (receive frame s)).events

/-- The instruction that a whole frame on the wire decodes to. -/
def decodeFrame (frame : List Byte) : Option (Except DecodeError Instr) :=
  (bundleOfFrame frame).map decode

/-! ## Well-formedness: an ill-formed term for each check (R9, R58) -/

theorem test_wf_init : wellFormed (.init exampleCfg true) = true := by decide
theorem test_wf_init_uid :
    wellFormed (.init { exampleCfg with ownUid := 0x7A70FFFFFFFF } true) = false ∧
      wellFormed (.init { exampleCfg with ownUid := uidAll } true) = false := by decide
theorem test_wf_init_pids :
    wellFormed (.init { exampleCfg with supportedPids := List.replicate 116 0 } true) = false := by
  decide
theorem test_wf_init_labels :
    wellFormed (.init { exampleCfg with modelDescription := List.replicate 33 0 } true) = false ∧
    wellFormed (.init { exampleCfg with manufacturerLabel := List.replicate 33 0 } true) = false ∧
    wellFormed (.init { exampleCfg with softwareVersionLabel := List.replicate 33 0 } true) = false ∧
    wellFormed (.init { exampleCfg with defaultDeviceLabel := List.replicate 33 0 } true) = false := by
  decide
theorem test_wf_checksum :
    wellFormed (.verifyChecksum (List.replicate 25 0) 26) = false ∧
      wellFormed (.verifyChecksum (List.replicate 258 0) 258) = false := by decide +kernel
theorem test_wf_handleRequest :
    wellFormed (.handleRequest (List.replicate 23 0) [] 0) = false ∧
      wellFormed (.handleRequest (List.replicate 24 0) [] 1) = false ∧
      wellFormed (.handleRequest (List.replicate 24 0) (List.replicate 232 0) 232) = false ∧
      wellFormed (.handleRequest (headerBytes (operandsHeader (req own 0 []) 0x10 0x0002)) [] 0) =
        false := by decide +kernel
theorem test_wf_request :
    wellFormed (.discMute { req own 0 [] with pdLen := 1 }) = false ∧
      wellFormed (.setDeviceLabel (req own 0 (List.replicate 232 0))) = false := by decide +kernel

/-! ## Decoding: bundles written out from R57, frames byte by byte -/

theorem test_decode_init : decode
    { op := 0b000, cfg := exampleCfg, sendPresent := true, buf := [], length := 0, dest := 0
      hdr := [], pd := [], pdLen := 0 } = .ok (.init exampleCfg true) := rfl
theorem test_decode_verifyChecksum : decode
    { op := 0b001, cfg := zeroCfg, sendPresent := false, buf := [0x01, 0x02], length := 2, dest := 0
      hdr := [], pd := [], pdLen := 0 } = .ok (.verifyChecksum [0x01, 0x02] 2) := rfl
theorem test_decode_requiresAction : decode
    { op := 0b010, cfg := zeroCfg, sendPresent := false, buf := [], length := 0, dest := own
      hdr := [], pd := [], pdLen := 0 } = .ok (.requiresAction own) := rfl
theorem test_decode_isMuted : decode
    { op := 0b100, cfg := zeroCfg, sendPresent := false, buf := [], length := 0, dest := 0
      hdr := [], pd := [], pdLen := 0 } = .ok .isMuted := rfl
theorem test_decode_reserved :
    decode (zeroBundle 0b101) = .error (.reservedSelect 0b101) ∧
      decode (zeroBundle 0b110) = .error (.reservedSelect 0b110) ∧
      decode (zeroBundle 0b111) = .error (.reservedSelect 0b111) := ⟨rfl, rfl, rfl⟩

/-- Frame F1 of spec/95_test_vectors.md (R85). -/
def frameF1 : List Byte :=
  [0xCC, 0x01, 0x18, 0x7A, 0x70, 0x12, 0x34, 0x56, 0x78, 0x12, 0x34, 0x56, 0x78, 0x9A, 0xBC, 0x00,
   0x01, 0x00, 0x00, 0x00, 0x20, 0x1F, 0xFF, 0x00, 0x06, 0x8C]
/-- P1 step 2. -/
def frameDub : List Byte :=
  [0xCC, 0x01, 0x24, 0xFF, 0xFF, 0xFF, 0xFF, 0xFF, 0xFF, 0x12, 0x34, 0x56, 0x78, 0x9A, 0xBC, 0x01,
   0x01, 0x00, 0x00, 0x00, 0x10, 0x00, 0x01, 0x0C, 0x00, 0x00, 0x00, 0x00, 0x00, 0x00, 0xFF, 0xFF,
   0xFF, 0xFF, 0xFF, 0xFF, 0x0F, 0x6E]
/-- V-DISC-01. -/
def frameMute : List Byte :=
  [0xCC, 0x01, 0x18, 0x7A, 0x70, 0x12, 0x34, 0x56, 0x78, 0x12, 0x34, 0x56, 0x78, 0x9A, 0xBC, 0x02,
   0x01, 0x00, 0x00, 0x00, 0x10, 0x00, 0x02, 0x00, 0x05, 0x62]
/-- P2 step 3. -/
def frameMuteAll : List Byte :=
  [0xCC, 0x01, 0x18, 0xFF, 0xFF, 0xFF, 0xFF, 0xFF, 0xFF, 0x12, 0x34, 0x56, 0x78, 0x9A, 0xBC, 0x02,
   0x01, 0x00, 0x00, 0x00, 0x10, 0x00, 0x02, 0x00, 0x09, 0x5E]
/-- P2 step 6. -/
def frameUnMute : List Byte :=
  [0xCC, 0x01, 0x18, 0x7A, 0x70, 0x12, 0x34, 0x56, 0x78, 0x12, 0x34, 0x56, 0x78, 0x9A, 0xBC, 0x05,
   0x01, 0x00, 0x00, 0x00, 0x10, 0x00, 0x03, 0x00, 0x05, 0x66]
/-- V-PAR-01. -/
def frameSupported : List Byte :=
  [0xCC, 0x01, 0x18, 0x7A, 0x70, 0x12, 0x34, 0x56, 0x78, 0x12, 0x34, 0x56, 0x78, 0x9A, 0xBC, 0x10,
   0x01, 0x00, 0x00, 0x00, 0x20, 0x00, 0x50, 0x00, 0x05, 0xCE]
/-- V-PAR-02. -/
def frameInfo : List Byte :=
  [0xCC, 0x01, 0x18, 0x7A, 0x70, 0x12, 0x34, 0x56, 0x78, 0x12, 0x34, 0x56, 0x78, 0x9A, 0xBC, 0x0F,
   0x01, 0x00, 0x00, 0x00, 0x20, 0x00, 0x60, 0x00, 0x05, 0xDD]
/-- V-PAR-04. -/
def frameModel : List Byte :=
  [0xCC, 0x01, 0x18, 0x7A, 0x70, 0x12, 0x34, 0x56, 0x78, 0x12, 0x34, 0x56, 0x78, 0x9A, 0xBC, 0x12,
   0x01, 0x00, 0x00, 0x00, 0x20, 0x00, 0x80, 0x00, 0x06, 0x00]
/-- V-PAR-05. -/
def frameManufacturer : List Byte :=
  [0xCC, 0x01, 0x18, 0x7A, 0x70, 0x12, 0x34, 0x56, 0x78, 0x12, 0x34, 0x56, 0x78, 0x9A, 0xBC, 0x11,
   0x01, 0x00, 0x00, 0x00, 0x20, 0x00, 0x81, 0x00, 0x06, 0x00]
/-- V-PAR-07. -/
def frameLabel : List Byte :=
  [0xCC, 0x01, 0x18, 0x7A, 0x70, 0x12, 0x34, 0x56, 0x78, 0x12, 0x34, 0x56, 0x78, 0x9A, 0xBC, 0x14,
   0x01, 0x00, 0x00, 0x00, 0x20, 0x00, 0x82, 0x00, 0x06, 0x04]
/-- V-PAR-08. -/
def frameSetLabel : List Byte :=
  [0xCC, 0x01, 0x1D, 0x7A, 0x70, 0x12, 0x34, 0x56, 0x78, 0x12, 0x34, 0x56, 0x78, 0x9A, 0xBC, 0x15,
   0x01, 0x00, 0x00, 0x00, 0x30, 0x00, 0x82, 0x05, 0x53, 0x74, 0x61, 0x67, 0x65, 0x08, 0x13]
/-- V-PAR-06. -/
def frameVersion : List Byte :=
  [0xCC, 0x01, 0x18, 0x7A, 0x70, 0x12, 0x34, 0x56, 0x78, 0x12, 0x34, 0x56, 0x78, 0x9A, 0xBC, 0x13,
   0x01, 0x00, 0x00, 0x00, 0x20, 0x00, 0xC0, 0x00, 0x06, 0x41]
/-- V-PAR-12. -/
def frameIdentify : List Byte :=
  [0xCC, 0x01, 0x18, 0x7A, 0x70, 0x12, 0x34, 0x56, 0x78, 0x12, 0x34, 0x56, 0x78, 0x9A, 0xBC, 0x0A,
   0x01, 0x00, 0x00, 0x00, 0x20, 0x10, 0x00, 0x00, 0x05, 0x88]
/-- V-PAR-13. -/
def frameSetIdentify : List Byte :=
  [0xCC, 0x01, 0x19, 0x7A, 0x70, 0x12, 0x34, 0x56, 0x78, 0x12, 0x34, 0x56, 0x78, 0x9A, 0xBC, 0x0B,
   0x01, 0x00, 0x00, 0x00, 0x30, 0x10, 0x00, 0x01, 0x01, 0x05, 0x9C]
/-- P3 step 5. -/
def frameSetIdentifyOff : List Byte :=
  [0xCC, 0x01, 0x19, 0x7A, 0x70, 0xFF, 0xFF, 0xFF, 0xFF, 0x12, 0x34, 0x56, 0x78, 0x9A, 0xBC, 0x04,
   0x01, 0x00, 0x00, 0x00, 0x30, 0x10, 0x00, 0x01, 0x00, 0x08, 0x7C]

theorem test_decode_handleRequest :
    decodeFrame frameF1 = some (.ok (.handleRequest (frameF1.take 24) [] 0)) := by decide
theorem test_decode_discUniqueBranch :
    decodeFrame frameDub = some (.ok (pseudoDub 0 uidAll uidAll controller 1 1 0)) := by
  decide
theorem test_decode_discMute :
    decodeFrame frameMute = some (.ok (pseudoMute own controller 2 1 0)) := by decide
theorem test_decode_discUnMute :
    decodeFrame frameUnMute = some (.ok (pseudoUnMute own controller 5 1 0)) := by decide
theorem test_decode_getSupportedParameters :
    decodeFrame frameSupported = some (.ok (.getSupportedParameters (req own 0x10 []))) := by
  decide
theorem test_decode_getDeviceInfo :
    decodeFrame frameInfo = some (.ok (.getDeviceInfo (req own 0x0F []))) := by decide
theorem test_decode_getDeviceModelDescription :
    decodeFrame frameModel = some (.ok (.getDeviceModelDescription (req own 0x12 []))) := by
  decide
theorem test_decode_getManufacturerLabel :
    decodeFrame frameManufacturer = some (.ok (.getManufacturerLabel (req own 0x11 []))) := by
  decide
theorem test_decode_getDeviceLabel :
    decodeFrame frameLabel = some (.ok (.getDeviceLabel (req own 0x14 []))) := by decide
theorem test_decode_setDeviceLabel :
    decodeFrame frameSetLabel =
      some (.ok (pseudoLabel [0x53, 0x74, 0x61, 0x67, 0x65] own controller 0x15 1 0)) := by
  decide
theorem test_decode_getSoftwareVersionLabel :
    decodeFrame frameVersion = some (.ok (.getSoftwareVersionLabel (req own 0x13 []))) := by
  decide
theorem test_decode_getIdentifyDevice :
    decodeFrame frameIdentify = some (.ok (.getIdentifyDevice (req own 0x0A []))) := by
  decide
theorem test_decode_setIdentifyDevice :
    decodeFrame frameSetIdentify = some (.ok (pseudoIdentify 1 own controller 0x0B 1 0)) := by
  decide

/-- The rows of spec/opcode_table.json as words. -/
theorem test_table_words :
    decodeTableWord 8 0b001 = some (.verifyChecksum [] 0) ∧
      decodeTableWord 8 0b100 = some .isMuted ∧
      decodeTableWord 24 0x2000C0 =
        some (.getSoftwareVersionLabel (operandsOfHeader
          { startCode := 0, subStartCode := 0, msgLen := 0, dest := 0, src := 0, tn := 0
            portId := 0, msgCount := 0, subDevice := 0, cc := 0, pid := 0, pdl := 0 } [] 0)) ∧
      decodeTableWord 8 0b111 = none := by decide

/-- The placed word runs as the next operation: INIT's record of zeros is admitted. -/
theorem test_withFetchWord :
    (after (step (State.reset.withFetchWord 8 0b000))).initialized = true ∧
      (after (step (ready.withFetchWord 8 0b100))).result = some false := by decide

/-! ## One step of each instruction -/

/-- V-CTL-01, V-CTL-05. -/
theorem test_init : after (exec (.init exampleCfg true) State.reset) = ready := by decide
theorem test_init_again :
    (after (exec (.init exampleCfg false)
      { ready with muted := true, identifyOn := true, deviceLabel := [0x41]
                   events := [.portSet 3 4] })) =
      { ready with sendPresent := false, events := [.portSet 3 4] } := by decide

/-- V-CS-01, V-CS-03, V-CS-06. -/
theorem test_verifyChecksum :
    (after (exec (.verifyChecksum frameF1 26) ready)).result = some true ∧
      (after (exec (.verifyChecksum frameF1 25) ready)).result = some false ∧
      (after (exec (.verifyChecksum (frameF1.set 25 0x8D) 26) ready)).result = some false := by
  decide
theorem test_verifyChecksum_max :
    (after (exec (.verifyChecksum (List.replicate 255 0xFF ++ [0xFE, 0x01]) 257) ready)).result =
      some true := by decide +kernel

/-- V-ADDR-01 to V-ADDR-06. -/
theorem test_requiresAction :
    [own, 0xFFFFFFFFFFFF, 0x7A70FFFFFFFF, 0x000000000000, 0x7A71FFFFFFFF, 0x7A7012345670].map
      (fun d => (after (exec (.requiresAction d) ready)).result) =
      [some true, some true, some true, some false, some false, some false] := by decide

/-- V-FSM-01, P4 step 6. -/
theorem test_handleRequest_unknown : eventsOf frameF1 ready =
    [.send true [[0xCC, 0x01, 0x1A, 0x12, 0x34, 0x56, 0x78, 0x9A, 0xBC, 0x7A, 0x70, 0x12, 0x34, 0x56,
      0x78, 0x00, 0x02, 0x00, 0x00, 0x00, 0x21, 0x1F, 0xFF, 0x02, 0x00, 0x00, 0x06, 0x92]] 1] := by
  decide
theorem test_handleRequest_subDevice : eventsOf
    [0xCC, 0x01, 0x18, 0x7A, 0x70, 0x12, 0x34, 0x56, 0x78, 0x12, 0x34, 0x56, 0x78, 0x9A, 0xBC, 0x02,
     0x01, 0x00, 0x00, 0x01, 0x40, 0x00, 0x60, 0x00, 0x05, 0xF1] ready =
    [.send true [[0xCC, 0x01, 0x1A, 0x12, 0x34, 0x56, 0x78, 0x9A, 0xBC, 0x7A, 0x70, 0x12, 0x34, 0x56,
      0x78, 0x02, 0x02, 0x00, 0x00, 0x01, 0x41, 0x00, 0x60, 0x02, 0x00, 0x09, 0x06, 0x00]] 1] := by
  decide

/-- V-CTL-01, V-CTL-02. -/
theorem test_isMuted :
    (after (exec .isMuted { ready with muted := true })).result = some true ∧
      (after (exec .isMuted ready)).result = some false := by decide

/-- P1 steps 2 and 4. -/
theorem test_dub : eventsOf frameDub ready =
    [.send false [[0xFE, 0xFE, 0xFE, 0xFE, 0xFE, 0xFE, 0xFE, 0xAA, 0xFA, 0x7F, 0xFA, 0x75, 0xBA, 0x57,
      0xBE, 0x75, 0xFE, 0x57, 0xFA, 0x7D, 0xAF, 0x57, 0xFA, 0xFD]] 1] := by decide
theorem test_dub_muted : eventsOf frameDub { ready with muted := true } = [] := by decide

/-- V-DISC-01, P2 step 3. -/
theorem test_discMute : after (receive frameMute ready) =
    { ready with
      muted := true
      events := [.portSet 3 4, .send true [[0xCC, 0x01, 0x1A, 0x12, 0x34, 0x56, 0x78, 0x9A, 0xBC,
        0x7A, 0x70, 0x12, 0x34, 0x56, 0x78, 0x02, 0x00, 0x00, 0x00, 0x00, 0x11, 0x00, 0x02, 0x02,
        0x00, 0x00, 0x05, 0x66]] 1] } := by decide
theorem test_discMute_all :
    eventsOf frameMuteAll { ready with muted := true } = [.portSet 3 4] := by decide

/-- P2 step 6. -/
theorem test_discUnMute : after (receive frameUnMute { ready with muted := true }) =
    { ready with
      events := [.portClear 3 4, .send true [[0xCC, 0x01, 0x1A, 0x12, 0x34, 0x56, 0x78, 0x9A, 0xBC,
        0x7A, 0x70, 0x12, 0x34, 0x56, 0x78, 0x05, 0x00, 0x00, 0x00, 0x00, 0x11, 0x00, 0x03, 0x02,
        0x00, 0x00, 0x05, 0x6A]] 1] } := by decide

/-- V-PAR-01. -/
theorem test_getSupportedParameters : eventsOf frameSupported ready =
    [.send true [[0xCC, 0x01, 0x1E, 0x12, 0x34, 0x56, 0x78, 0x9A, 0xBC, 0x7A, 0x70, 0x12, 0x34, 0x56,
      0x78, 0x10, 0x00, 0x00, 0x00, 0x00, 0x21, 0x00, 0x50, 0x06, 0x00, 0x80, 0x00, 0x81, 0x00, 0x82,
      0x07, 0x5D]] 1] := by decide

/-- V-PAR-02, V-PAR-03. -/
theorem test_getDeviceInfo : eventsOf frameInfo ready =
    [.send true [[0xCC, 0x01, 0x2B, 0x12, 0x34, 0x56, 0x78, 0x9A, 0xBC, 0x7A, 0x70, 0x12, 0x34, 0x56,
      0x78, 0x0F, 0x00, 0x00, 0x00, 0x00, 0x21, 0x00, 0x60, 0x13, 0x01, 0x00, 0x00, 0x01, 0x01, 0x00,
      0x00, 0x00, 0x00, 0x01, 0x00, 0x00, 0x01, 0x01, 0xFF, 0xFF, 0x00, 0x00, 0x00, 0x08, 0x07]] 1] :=
  by decide
theorem test_getDeviceInfo_format : eventsOf
    [0xCC, 0x01, 0x19, 0x7A, 0x70, 0x12, 0x34, 0x56, 0x78, 0x12, 0x34, 0x56, 0x78, 0x9A, 0xBC, 0x19,
     0x01, 0x00, 0x00, 0x00, 0x20, 0x00, 0x60, 0x01, 0x00, 0x05, 0xE9] ready =
    [.send true [[0xCC, 0x01, 0x1A, 0x12, 0x34, 0x56, 0x78, 0x9A, 0xBC, 0x7A, 0x70, 0x12, 0x34, 0x56,
      0x78, 0x19, 0x02, 0x00, 0x00, 0x00, 0x21, 0x00, 0x60, 0x02, 0x00, 0x01, 0x05, 0xEE]] 1] := by
  decide

/-- V-PAR-04. -/
theorem test_getDeviceModelDescription : eventsOf frameModel ready =
    [.send true [[0xCC, 0x01, 0x1F, 0x12, 0x34, 0x56, 0x78, 0x9A, 0xBC, 0x7A, 0x70, 0x12, 0x34, 0x56,
      0x78, 0x12, 0x00, 0x00, 0x00, 0x00, 0x21, 0x00, 0x80, 0x07, 0x4A, 0x61, 0x20, 0x52, 0x75, 0x6C,
      0x65, 0x08, 0x71]] 1] := by decide

/-- V-PAR-05. -/
theorem test_getManufacturerLabel : eventsOf frameManufacturer ready =
    [.send true [[0xCC, 0x01, 0x1B, 0x12, 0x34, 0x56, 0x78, 0x9A, 0xBC, 0x7A, 0x70, 0x12, 0x34, 0x56,
      0x78, 0x11, 0x00, 0x00, 0x00, 0x00, 0x21, 0x00, 0x81, 0x03, 0x4F, 0x4C, 0x50, 0x06, 0xF1]] 1] :=
  by decide

/-- V-PAR-09, with the transaction number of V-PAR-07: the stored label comes back (checksum by hand:
0x0604 + 0x05 for MESSAGE_LENGTH, 0x05 for PDL, 0x1F4 for the label). -/
theorem test_getDeviceLabel :
    eventsOf frameLabel { ready with deviceLabel := [0x53, 0x74, 0x61, 0x67, 0x65] } =
    [.send true [[0xCC, 0x01, 0x1D, 0x12, 0x34, 0x56, 0x78, 0x9A, 0xBC, 0x7A, 0x70, 0x12, 0x34, 0x56,
      0x78, 0x14, 0x00, 0x00, 0x00, 0x00, 0x21, 0x00, 0x82, 0x05, 0x53, 0x74, 0x61, 0x67, 0x65, 0x08,
      0x02]] 1] := by decide

/-- V-PAR-08. -/
theorem test_setDeviceLabel : after (receive frameSetLabel ready) =
    { ready with
      deviceLabel := [0x53, 0x74, 0x61, 0x67, 0x65]
      events := [.send true [[0xCC, 0x01, 0x18, 0x12, 0x34, 0x56, 0x78, 0x9A, 0xBC, 0x7A, 0x70, 0x12,
        0x34, 0x56, 0x78, 0x15, 0x00, 0x00, 0x00, 0x00, 0x31, 0x00, 0x82, 0x00, 0x06, 0x15]] 1] } := by
  decide

/-- V-PAR-06. -/
theorem test_getSoftwareVersionLabel : eventsOf frameVersion ready =
    [.send true [[0xCC, 0x01, 0x1A, 0x12, 0x34, 0x56, 0x78, 0x9A, 0xBC, 0x7A, 0x70, 0x12, 0x34, 0x56,
      0x78, 0x13, 0x00, 0x00, 0x00, 0x00, 0x21, 0x00, 0xC0, 0x02, 0x76, 0x31, 0x06, 0xEC]] 1] := by
  decide

/-- V-PAR-12. -/
theorem test_getIdentifyDevice : eventsOf frameIdentify ready =
    [.send true [[0xCC, 0x01, 0x19, 0x12, 0x34, 0x56, 0x78, 0x9A, 0xBC, 0x7A, 0x70, 0x12, 0x34, 0x56,
      0x78, 0x0A, 0x00, 0x00, 0x00, 0x00, 0x21, 0x10, 0x00, 0x01, 0x00, 0x05, 0x8A]] 1] := by
  decide

/-- V-PAR-13, P3 step 5. -/
theorem test_setIdentifyDevice : after (receive frameSetIdentify ready) =
    { ready with
      identifyOn := true
      events := [.portSet 1 2, .send true [[0xCC, 0x01, 0x18, 0x12, 0x34, 0x56, 0x78, 0x9A, 0xBC,
        0x7A, 0x70, 0x12, 0x34, 0x56, 0x78, 0x0B, 0x00, 0x00, 0x00, 0x00, 0x31, 0x10, 0x00, 0x00,
        0x05, 0x99]] 1] } := by decide
theorem test_setIdentifyDevice_off :
    after (receive frameSetIdentifyOff { ready with identifyOn := true }) =
      { ready with events := [.portClear 1 2] } := by decide

/-! ## Witnesses: for each statement with hypotheses, a state and operands that meet them -/

theorem ready_inv : ready.Inv := ⟨rfl, fun _ => by decide, fun e he => by cases he⟩

/-- Every request that `req` writes to an address that passes the gate is delivered. -/
theorem delivered_req {d : Uid} {tn : Byte} {pd : List Byte} (hl : pd.length ≤ 231)
    (hg : PassesGate d ready) : Delivered (req d tn pd) ready := by
  refine ⟨⟨rfl, hl⟩, ⟨rfl, rfl, ?_, ?_⟩, hg, rfl⟩ <;>
    simp [operandsHeader, req, assembleRequest, hdrLen] <;> omega

/-- The three address classes that pass the gate. -/
theorem gate_witness : PassesGate own ready ∧ PassesGate uidAll ready ∧
    PassesGate 0x7A70FFFFFFFF ready := by decide

/-- The header of a request with these slots 20 to 22. -/
def hdrOf (r : RequestOperands) (cc : Byte) (pid : Word16) : List Byte :=
  headerBytes (operandsHeader r cc pid)

theorem hdrOf_header (r : RequestOperands) (cc : Byte) (pid : Word16) :
    headerOfBytes (hdrOf r cc pid) = some (operandsHeader r cc pid) :=
  headerOfBytes_headerBytes _

theorem test_witness_StepRunsTheDecodedOperation :
    (ready.present (zeroBundle 0b100)).input = [zeroBundle 0b100] ∧
      decode (zeroBundle 0b100) = .ok .isMuted := ⟨rfl, rfl⟩

theorem test_witness_StepRefusesReservedSelects :
    ∀ op ∈ [0b101, 0b110, 0b111],
      (ready.present (zeroBundle op)).input = zeroBundle op :: [] ∧
        ((zeroBundle op).op = 0b101 ∨ (zeroBundle op).op = 0b110 ∨ (zeroBundle op).op = 0b111) := by
  decide

theorem test_witness_StepWaitsForAnOperation : State.reset.input = [] ∧ ready.input = [] :=
  ⟨rfl, rfl⟩

theorem test_witness_OneOperationAtATime : (ready.enter .decode).txn.stage ≠ .idle := by decide

theorem test_witness_DispatchKeyIsClassAndPid :
    dispatchKey 0x30 0x1000 = dispatchKey 0x30 0x1000 := rfl

theorem test_witness_DecodeEncodeAgree :
    wellFormed (.init exampleCfg false) = true ∧
      wellFormed (.verifyChecksum (List.replicate 257 0) 257) = true ∧
      wellFormed (.requiresAction own) = true ∧
      wellFormed (.handleRequest (frameF1.take 24) (List.replicate 231 0) 231) = true ∧
      wellFormed .isMuted = true ∧
      wellFormed (.discMute (req own 0 [])) = true ∧
      wellFormed (.setDeviceLabel (req own 0 (List.replicate 231 0x41))) = true := by
  decide +kernel

theorem test_witness_EncodeDecodeAgree :
    decode (zeroBundle 0b000) = .ok (.init zeroCfg false) ∧
      decode (zeroBundle 0b001) = .ok (.verifyChecksum [] 0) ∧
      decode (zeroBundle 0b010) = .ok (.requiresAction 0) ∧
      decode (zeroBundle 0b011) = .ok (.handleRequest (List.replicate 24 0) [] 0) ∧
      decode (requestBundle (hdrOf (req own 7 [0x41]) 0x30 0x0082) [0x41] 1) =
        .ok (.setDeviceLabel (req own 7 [0x41])) := by decide

theorem test_witness_AssembledFrameIsPresented :
    (operandsHeader (req own 0 []) 0x20 0x0060).pdl.toNat = ([] : List Byte).length ∧
      (operandsHeader (req own 0 (List.replicate 231 0x41)) 0x30 0x0082).pdl.toNat =
        (List.replicate 231 (0x41 : Byte)).length := by decide +kernel

theorem test_witness_EveryStepKeepsInvariant :
    (ready.present (zeroBundle 0b100)).Inv ∧
      (∃ t, step (ready.present (zeroBundle 0b100)) = .next t) ∧
      State.reset.Inv ∧ (∃ t, step State.reset = .next t) :=
  ⟨⟨rfl, fun _ => by decide, fun e he => by cases he⟩, ⟨_, next_after (by decide)⟩,
    ⟨rfl, fun h => (by cases h), fun e he => by cases he⟩, ⟨_, next_after (by decide)⟩⟩

theorem test_witness_NoInternalFault : ready.Inv := ready_inv

theorem test_witness_InitializedGatesEveryOperation :
    (∃ t, exec (.init exampleCfg true) State.reset = .next t ∧ t.initialized ≠ State.reset.initialized) ∧
      (∃ t, exec .isMuted ready = .next t ∧ ready.initialized = true) ∧
      (isInit .isMuted = false ∧ State.reset.initialized = false ∧
        State.reset.txn.stage = .idle) :=
  ⟨⟨_, next_after (by decide), by decide⟩, ⟨_, next_after (by decide), rfl⟩, rfl, rfl, rfl⟩

theorem test_witness_MalformedOperationsAreRefused :
    ready.txn.stage = .idle ∧ ready.initialized = true ∧
      State.reset.txn.stage = .idle ∧ State.reset.initialized = false ∧ isInit .isMuted = false ∧
      (ready.present (zeroBundle 0b101)).txn.stage = .idle ∧
      (ready.present (zeroBundle 0b101)).input = zeroBundle 0b101 :: [] ∧
      deviceId 0x7A70FFFFFFFF = 0xFFFFFFFF ∧ deviceId uidAll = 0xFFFFFFFF ∧
      115 < (List.replicate 116 (0 : Word16)).length ∧ 32 < (List.replicate 33 (0 : Byte)).length ∧
      257 < 258 ∧ ([] : List Byte).length < 1 ∧
      (List.replicate 23 (0 : Byte)).length ≠ 24 ∧ ([] : List Byte).length ≠ 1 ∧ 231 < 232 := by
  decide +kernel

theorem test_witness_InitReplacesEveryRegister :
    ready.txn.stage = .idle ∧ cfgValid exampleCfg = true ∧
      cfgValid { exampleCfg with supportedPids := List.replicate 115 0 } = true ∧
      cfgValid { exampleCfg with defaultDeviceLabel := List.replicate 32 0 } = true ∧
      cfgValid { exampleCfg with ownUid := uidAll } = false := by decide

theorem test_witness_IsMutedReturnsTheFlag : Ready ready := by decide
theorem test_witness_RequiresActionResult : Ready ready := by decide

theorem test_witness_AddressClassesAreTheFourForms :
    deviceId own ≠ 0xFFFFFFFF ∧ deviceId (0xFFFF12345678 : Uid) ≠ 0xFFFFFFFF := by decide

theorem test_witness_VerifyChecksumResult :
    Ready ready ∧
      (∀ n ∈ [0, 25, 26, 257], n ≤ (List.replicate 257 (0 : Byte)).length ∧ n ≤ 257) ∧
      (frameF1.length < 27 ∧ 257 < 258) := by decide +kernel

theorem test_witness_TrailerByteChangeIsDetected :
    26 ≤ frameF1.length ∧ verifyChecksum frameF1 26 = .ok true ∧ (24 = 26 - 2 ∧ 25 = 26 - 1) ∧
      (0x07 : Byte) ≠ slot frameF1 24 ∧ (0x8D : Byte) ≠ slot frameF1 25 :=
  ⟨by decide, (verifyChecksum_eq (by decide) (by decide)).trans (by decide), by decide,
    by decide, by decide⟩

theorem test_witness_ChecksumIsNeverReduced :
    (List.replicate 255 (0xFF : Byte)).length ≤ 255 ∧
      ((List.replicate 255 (0xFF : Byte)).map BitVec.toNat).sum = 65025 := by decide +kernel

/-- The request view of frame F1 (V-DEC-01). -/
def viewF1 : RequestView :=
  decodeView (operandsHeader (req own 0 []) 0x20 0x1FFF) [] own

theorem built_ok {data : List Byte} (h : data.length ≤ 231) :
    buildStandard viewF1 0x00 data = .ok (replyFrame viewF1.src viewF1.dest viewF1.tn 0x00
      viewF1.subDevice (viewF1.cc + 1) viewF1.pid data) := buildStandard_eq_replyFrame _ _ h

theorem test_witness_BuiltFramesVerify :
    (∃ frame, buildStandard viewF1 0x00 [] = .ok frame) ∧
      (∃ frame, buildStandard viewF1 0x00 (List.replicate 231 0x41) = .ok frame) :=
  ⟨⟨_, built_ok (by decide)⟩, ⟨_, built_ok (Nat.le_of_eq List.length_replicate)⟩⟩

theorem test_witness_DubResponseLayout : 0 < 8 ∧ 7 < 8 := by decide

theorem test_witness_MalformedFramesAreDropped :
    Ready ready ∧ OperandsOk [] 0 ∧ OperandsOk [0x00] 1 ∧
      ∀ hdr ∈ [(frameF1.take 24).set 0 0xCD, (frameF1.take 24).set 1 0x02,
          (frameF1.take 24).set 2 0x1A, (frameF1.take 24).set 23 0x01],
        hdr.length = 24 ∧ (slot hdr 0 ≠ 0xCC ∨ slot hdr 1 ≠ 0x01 ∨ (slot hdr 23).toNat ≠ 0 ∨
          (slot hdr 2).toNat ≠ 24 + (slot hdr 23).toNat) := by decide

theorem test_witness_OtherAddressesAreDropped :
    Ready ready ∧ OperandsOk [] 0 ∧
      headerOfBytes (hdrOf (req 0x7A71FFFFFFFF 0 []) 0x10 0x0002) =
        some (operandsHeader (req 0x7A71FFFFFFFF 0 []) 0x10 0x0002) ∧
      PassesDecode (operandsHeader (req 0x7A71FFFFFFFF 0 []) 0x10 0x0002) 0 ∧
      addressClass 0x7A71FFFFFFFF ready.cfg.ownUid = .other := by decide

/-- A request to sub-device 0xFFFF. -/
def subReq : RequestOperands := { req own 0 [] with subDevice := 0xFFFF }

theorem test_witness_SubDeviceIsOutOfRange :
    Ready ready ∧ OperandsOk [] 0 ∧
      headerOfBytes (hdrOf subReq 0x40 0x0060) = some (operandsHeader subReq 0x40 0x0060) ∧
      PassesDecode (operandsHeader subReq 0x40 0x0060) 0 ∧ PassesGate own ready ∧
      subReq.subDevice ≠ 0 := by decide

theorem test_witness_UnsupportedCommandClassIsNacked :
    Ready ready ∧ OperandsOk [] 0 ∧
      ∀ cc ∈ [(0x00 : Byte), 0x11, 0x21, 0x31, 0x40, 0xFF],
        headerOfBytes (hdrOf (req own 0 []) cc 0x0060) =
            some (operandsHeader (req own 0 []) cc 0x0060) ∧
          PassesDecode (operandsHeader (req own 0 []) cc 0x0060) 0 ∧ PassesGate own ready ∧
          (req own 0 []).subDevice = 0 ∧ cc ≠ 0x10 ∧ cc ≠ 0x20 ∧ cc ≠ 0x30 := by decide

theorem test_witness_UnknownPidIsNacked :
    Ready ready ∧ OperandsOk [] 0 ∧ PassesGate own ready ∧ (req own 0 []).subDevice = 0 ∧
      (headerOfBytes (hdrOf (req own 0 []) 0x30 0x0060) =
          some (operandsHeader (req own 0 []) 0x30 0x0060) ∧
        PassesDecode (operandsHeader (req own 0 []) 0x30 0x0060) 0) ∧
      dispatchKey 0x20 0x1FFF ∉ requestKeys ∧
      dispatchKey 0x30 0x0060 ∉ requestKeys ∧
      dispatchKey 0x10 0x0060 ∉ requestKeys :=
  ⟨by decide, by decide, by decide, rfl, ⟨hdrOf_header _ _ _, by decide⟩, by decide, by decide,
    by decide⟩

theorem test_witness_HandleRequestCompletes :
    Ready ready ∧ ready.Inv ∧ (frameF1.take 24).length = 24 ∧ OperandsOk [] 0 ∧
      OperandsOk (List.replicate 231 0) 231 :=
  ⟨by decide, ready_inv, by decide, by decide, by decide +kernel⟩

/-- The premises of HandleRequestRunsTheSelectedRow on a header for the command class `cc` and the
PID `pid` and on the parameter data `pd`, with the key that selects the row. -/
def SelectsRow (cc : Byte) (pid : Word16) (key : Key) (pd : List Byte) : Prop :=
  headerOfBytes (hdrOf (req own 0 pd) cc pid) = some (operandsHeader (req own 0 pd) cc pid) ∧
    OperandsOk pd pd.length ∧ PassesDecode (operandsHeader (req own 0 pd) cc pid) pd.length ∧
    PassesGate own ready ∧ (req own 0 pd).subDevice = 0 ∧ dispatchKey cc pid = key

theorem selectsRow {cc : Byte} {pid : Word16} {pd : List Byte} (h : pd.length ≤ 231) :
    SelectsRow cc pid (dispatchKey cc pid) pd :=
  have ⟨operands, decodes, passes, root⟩ := delivered_req (tn := 0) h gate_witness.1
  ⟨hdrOf_header _ _ _, operands, decodes, passes, root, rfl⟩

/-- Each of the twelve rows with the parameter data at the boundaries of its clauses: none, one byte,
12 bytes in and out of range, 32 and 33. -/
theorem test_witness_HandleRequestRunsTheSelectedRow :
    Ready ready ∧ cfgValid ready.cfg = true ∧ ready.deviceLabel.length ≤ 32 ∧ ready.muted = false ∧
      (∀ pd ∈ [[], [(0x00 : Byte)], be48 own ++ be48 own, be48 (own + 1) ++ be48 uidAll],
        SelectsRow 0x10 0x0001 0x100001 pd) ∧
      (∀ pd ∈ [[], [(0x00 : Byte)]],
        SelectsRow 0x10 0x0002 0x100002 pd ∧ SelectsRow 0x10 0x0003 0x100003 pd ∧
        SelectsRow 0x20 0x0050 0x200050 pd ∧ SelectsRow 0x20 0x0060 0x200060 pd ∧
        SelectsRow 0x20 0x0080 0x200080 pd ∧ SelectsRow 0x20 0x0081 0x200081 pd ∧
        SelectsRow 0x20 0x0082 0x200082 pd ∧ SelectsRow 0x20 0x00C0 0x2000C0 pd ∧
        SelectsRow 0x20 0x1000 0x201000 pd) ∧
      (∀ pd ∈ [[], List.replicate 32 (0x41 : Byte), List.replicate 33 0x41],
        SelectsRow 0x30 0x0082 0x300082 pd) ∧
      ∀ pd ∈ [[], [(0x00 : Byte)], [0x01], [0x01, 0x01]], SelectsRow 0x30 0x1000 0x301000 pd := by
  refine ⟨by decide, by decide, by decide, rfl, ?_, ?_, ?_, ?_⟩ <;> intro pd hpd
  · exact selectsRow (by revert hpd pd; decide)
  · have h : pd.length ≤ 231 := by revert hpd pd; decide
    exact ⟨selectsRow h, selectsRow h, selectsRow h, selectsRow h, selectsRow h, selectsRow h,
      selectsRow h, selectsRow h, selectsRow h⟩
  · exact selectsRow (by revert hpd pd; decide)
  · exact selectsRow (by revert hpd pd; decide)

theorem test_witness_DiscMuteResult :
    Ready ready ∧ Delivered (req own 2 []) ready ∧ (req own 2 []).pdl = 0 ∧
      Delivered (req own 2 [0x00]) ready ∧ (req own 2 [0x00]).pdl ≠ 0 := by decide

theorem test_witness_DiscUnMuteResult :
    Ready { ready with muted := true } ∧ Delivered (req uidAll 2 []) { ready with muted := true } ∧
      (req uidAll 2 []).pdl = 0 ∧ Delivered (req own 2 [0x00]) { ready with muted := true } ∧
      (req own 2 [0x00]).pdl ≠ 0 := by decide

theorem test_witness_DiscUniqueBranchResult :
    Ready ready ∧
      Delivered (req uidAll 1 (be48 own ++ be48 own)) ready ∧ ready.muted = false ∧
      (req uidAll 1 (be48 own ++ be48 own)).pdl = 12 ∧
      fromBe ((be48 own ++ be48 own).take 6) = ready.cfg.ownUid.toNat ∧
      fromBe ((be48 own ++ be48 own).drop 6) = ready.cfg.ownUid.toNat ∧
      Delivered (req uidAll 1 (List.replicate 11 0)) ready ∧
      Delivered (req uidAll 1 (be48 (own + 1) ++ be48 uidAll)) ready := by decide

theorem test_witness_DubChangesNothing :
    (∃ t, exec (.discUniqueBranch (req uidAll 1 (be48 0 ++ be48 uidAll))) ready = .next t) ∧
      ∃ t, exec (.discUniqueBranch (req uidAll 1 (be48 0 ++ be48 uidAll)))
          { ready with muted := true } = .next t ∧
        (req uidAll 1 (be48 0 ++ be48 uidAll)).subDevice = 0 :=
  ⟨⟨_, next_after (by decide)⟩, ⟨_, next_after (by decide), rfl⟩⟩

/-- The empty run, and a run of a GET, a Mute and an IS_MUTED. -/
theorem test_witness_MuteGatesDiscovery :
    Ready ready ∧ Delivered (req own 2 []) ready ∧ (req own 2 []).pdl = 0 ∧
      let t := after (exec (.discMute (req own 2 [])) ready)
      let ops : List Instr :=
        [.getDeviceLabel (req own 0 []), .discMute (req own 2 []), .isMuted]
      let w := after (execAll ops t)
      execAll [] t = .next t ∧
      (∀ i ∈ ops, isInit i = false ∧ keyOf i ≠ some 0x100003) ∧ execAll ops t = .next w ∧
      Delivered (req uidAll 4 []) w ∧ (req uidAll 4 []).pdl = 0 ∧
      Delivered (req uidAll 3 (be48 0 ++ be48 uidAll)) w :=
  ⟨by decide, by decide, by decide, rfl, by decide, next_after (by decide), by decide, by decide,
    by decide⟩

theorem test_witness_ConstantParametersAreReturned :
    Ready ready ∧ cfgValid ready.cfg = true ∧ Delivered (req own 0 []) ready ∧
      (req own 0 []).pdl = 0 ∧ Delivered (req own 0 [0x00]) ready ∧ (req own 0 [0x00]).pdl ≠ 0 := by
  decide

theorem test_witness_RegistersAreReturned :
    Ready ready ∧ ready.deviceLabel.length ≤ 32 ∧
      (List.replicate 32 (0x41 : Byte)).length ≤ 32 ∧ Delivered (req own 0 []) ready ∧
      (req own 0 []).pdl = 0 ∧ Delivered (req own 0 [0x00]) ready ∧ (req own 0 [0x00]).pdl ≠ 0 := by
  decide

theorem test_witness_SetDeviceLabelResult :
    Ready ready ∧ Delivered (req own 0 []) ready ∧ (req own 0 []).pdl.toNat ≤ 32 ∧
      Delivered (req own 0 (List.replicate 32 0x41)) ready ∧
      (req own 0 (List.replicate 32 0x41)).pdl.toNat ≤ 32 ∧
      Delivered (req own 0 (List.replicate 33 0x41)) ready ∧
      32 < (req own 0 (List.replicate 33 0x41)).pdl.toNat := by decide

theorem test_witness_SetIdentifyDeviceResult :
    Ready ready ∧
      (∀ b ∈ [(0x00 : Byte), 0x01, 0xFF],
        Delivered (req own 0 [b]) ready ∧ (req own 0 [b]).pdl = 1 ∧ slot [b] 0 = b) ∧
      Delivered (req own 0 []) ready ∧ (req own 0 []).pdl ≠ 1 ∧
      Delivered (req own 0 [0x01, 0x01]) ready ∧ (req own 0 [0x01, 0x01]).pdl ≠ 1 := by
  decide

theorem test_witness_GetsWriteNothing :
    (∃ t, exec (.getSupportedParameters (req own 0 [])) ready = .next t) ∧
      (∃ t, exec (.getDeviceInfo (req own 0 [])) ready = .next t) ∧
      (∃ t, exec (.getDeviceModelDescription (req own 0 [])) ready = .next t) ∧
      (∃ t, exec (.getManufacturerLabel (req own 0 [])) ready = .next t) ∧
      (∃ t, exec (.getDeviceLabel (req own 0 [])) ready = .next t) ∧
      (∃ t, exec (.getSoftwareVersionLabel (req own 0 [])) ready = .next t) ∧
      ∃ t, exec (.getIdentifyDevice (req own 0 [])) ready = .next t :=
  ⟨⟨_, next_after (by decide)⟩,
    ⟨_, next_after (by decide)⟩,
    ⟨_, next_after (by decide)⟩,
    ⟨_, next_after (by decide)⟩,
    ⟨_, next_after (by decide)⟩,
    ⟨_, next_after (by decide)⟩,
    ⟨_, next_after (by decide)⟩⟩

theorem test_witness_RegistersChangeOnlyByTheirWriters :
    (∃ t, exec (.init exampleCfg true) State.reset = .next t ∧ t.cfg ≠ State.reset.cfg ∧
      t.sendPresent ≠ State.reset.sendPresent ∧ t.initialized ≠ State.reset.initialized) ∧
      (∃ t, exec (.discMute (req own 0 [])) ready = .next t ∧ t.muted ≠ ready.muted) ∧
      (∃ t, exec (.setIdentifyDevice (req own 0 [0x01])) ready = .next t ∧
        t.identifyOn ≠ ready.identifyOn) ∧
      ∃ t, exec (.setDeviceLabel (req own 0 [0x41])) ready = .next t ∧
        t.deviceLabel ≠ ready.deviceLabel :=
  ⟨⟨_, next_after (by decide), by decide, by decide, by decide⟩,
    ⟨_, next_after (by decide), by decide⟩,
    ⟨_, next_after (by decide), by decide⟩,
    ⟨_, next_after (by decide), by decide⟩⟩

theorem test_witness_TraceGrowsByPortThenSend :
    (∃ t, exec (.discMute (req own 0 [])) ready = .next t) ∧
      ∃ t, exec .isMuted ready = .next t ∧ keyOf .isMuted = none :=
  ⟨⟨_, next_after (by decide)⟩, ⟨_, next_after (by decide), rfl⟩⟩

theorem test_witness_NullSendCapabilityOnlyRemovesSends :
    isInit (.discMute (req own 0 [])) = false ∧
      ∃ t, exec (.discMute (req own 0 [])) ready = .next t :=
  ⟨rfl, _, next_after (by decide)⟩

theorem test_witness_MutedIsReadOnlyByDubAndIsMuted :
    keyOf (.getDeviceLabel (req own 0 [])) ≠ some 0x100001 ∧
      Instr.getDeviceLabel (req own 0 []) ≠ .isMuted ∧
      ∃ t, exec (.getDeviceLabel (req own 0 [])) ready = .next t :=
  ⟨by decide, by decide, _, next_after (by decide)⟩

theorem test_witness_EffectsDoNotDependOnTheReply :
    PassesGate own ready ∧ PassesGate uidAll ready ∧
      (∃ t, exec (.handleRequest (hdrOf (req own 0 []) 0x10 0x0002) [] 0) ready = .next t) ∧
      ∃ t, exec (.handleRequest (hdrOf (req uidAll 0 []) 0x10 0x0002) [] 0) ready = .next t :=
  ⟨by decide, by decide, ⟨_, next_after (by decide)⟩,
    ⟨_, next_after (by decide)⟩⟩

/-- The premises of ReplyCount, and each of its clauses: UNICAST, ALL_DEVICES, VENDORCAST_OWN, OTHER,
and a DISC_UNIQUE_BRANCH that reaches its handler. -/
theorem test_witness_ReplyCount :
    Ready ready ∧ ready.Inv ∧ ready.sendPresent = true ∧ OperandsOk [] 0 ∧
      (∀ d : Uid, headerOfBytes (hdrOf (req d 0 []) 0x10 0x0002) =
          some (operandsHeader (req d 0 []) 0x10 0x0002) ∧
        PassesDecode (operandsHeader (req d 0 []) 0x10 0x0002) 0) ∧
      addressClass own ready.cfg.ownUid = .unicast ∧
      addressClass uidAll ready.cfg.ownUid = .allDevices ∧
      addressClass 0x7A70FFFFFFFF ready.cfg.ownUid = .vendorcastOwn ∧
      addressClass 0x7A71FFFFFFFF ready.cfg.ownUid = .other ∧
      dispatchKey 0x10 0x0002 ≠ 0x100001 ∧
      PassesGate uidAll ready ∧ (req uidAll 0 []).subDevice = 0 ∧
      dispatchKey 0x10 0x0001 = 0x100001 :=
  ⟨by decide, ready_inv, rfl, by decide, fun _ => ⟨hdrOf_header _ _ _, rfl, rfl, rfl, rfl⟩,
    by decide, by decide, by decide, by decide, by decide, by decide, rfl, by decide⟩

end Sys2Proof.Tests
end

/-! PROOFS, the scope family. What one operation and one step can do, said once (R13, R51, R113),
and from it the invariant and the shape of the trace. -/

namespace Sys2Proof.Machine

/-! ## Standard frames: header, data, checksum (R103, R112) -/

/-- The header slots of a standard reply with `n` bytes of data (R104). -/
def replyHeader (v : RequestView) (rtype : Byte) (n : Nat) : RequestHeader :=
  { startCode := startCodeValue, subStartCode := subStartCodeValue
    msgLen := BitVec.ofNat 8 (hdrLen + n), dest := v.src, src := v.dest, tn := v.tn
    portId := rtype, msgCount := 0x00, subDevice := v.subDevice, cc := v.cc + 1, pid := v.pid
    pdl := BitVec.ofNat 8 n }

theorem standardBody_eq_headerBytes (v : RequestView) (rtype : Byte) (data : List Byte) :
    standardBody v rtype data = headerBytes (replyHeader v rtype data.length) ++ data := rfl

theorem replyHeader_passesDecode (v : RequestView) (rtype : Byte) {n : Nat} (hn : n ≤ 231) :
    PassesDecode (replyHeader v rtype n) n := by
  refine ⟨rfl, rfl, ?_, ?_⟩ <;> simp only [replyHeader, BitVec.toNat_ofNat, hdrLen] <;> omega

theorem slice_append_left {a b : List Byte} {n : Nat} (h : a.length = n) :
    slice (a ++ b) 0 n = a := List.take_left' h

theorem slice_append_right {a b : List Byte} {n k : Nat} (hn : a.length = n) (hk : b.length = k) :
    slice (a ++ b) n k = b := by
  rw [slice, List.drop_left' hn, ← hk, List.take_length]

/-- R87 to R89: bytes followed by their own checksum verify. -/
theorem verifyChecksum_append_checksum {body : List Byte} (h : 24 ≤ body.length) :
    verifyChecksum (body ++ be16 (checksum16 body)) (body ++ be16 (checksum16 body)).length =
      .ok true := by
  have hlen : (body ++ be16 (checksum16 body)).length - 2 = body.length := by simp
  rw [verifyChecksum_eq (by simp; omega) le_rfl, hlen, slice_append_left rfl,
    slice_append_right rfl (length_be16 _)]
  simp

/-- R112: the block's own checks accept every standard frame it builds. -/
theorem standardFrameOk_of_buildStandard {v : RequestView} {rtype : Byte}
    {data frame : List Byte} (h : buildStandard v rtype data = .ok frame) :
    standardFrameOk frame := by
  obtain ⟨hl, rfl⟩ := buildStandard_ok.1 h
  have hbody := length_standardBody v rtype data
  refine ⟨verifyChecksum_append_checksum (by omega), replyHeader v rtype data.length, ?_, ?_⟩
  · rw [standardBody_eq_headerBytes, List.append_assoc,
      slice_append_left (length_headerBytes _), headerOfBytes_headerBytes]
  · have hdata : (standardBody v rtype data ++
        be16 (checksum16 (standardBody v rtype data))).length - 26 = data.length := by
      simp [hbody]
    rw [hdata]
    exact replyHeader_passesDecode v rtype hl

/-! ## Replies and the Sends of stage TRANSPORT (R120, R122) -/

/-- A reply that the invariant admits as a Send. -/
def Reply.ok : Reply → Prop
  | .noReply => True
  | .standard frame => standardFrameOk frame
  | .raw bytes => dubFrameOk bytes

/-- The reply policy's answer is admissible where a DUB result is a DUB response. -/
theorem replyPolicy_reply_ok {v : RequestView} {result : HandlerResult} {reply : Reply}
    (hdub : ∀ bytes, result = .dub bytes → dubFrameOk bytes)
    (h : replyPolicy v result = .ok reply) : reply.ok := by
  obtain ⟨rfl, -⟩ | ⟨data, frame, -, -, hb, rfl⟩ | ⟨reason, frame, -, -, hb, rfl⟩ |
    ⟨bytes, hr, rfl⟩ := replyPolicy_ok h
  · trivial
  · exact standardFrameOk_of_buildStandard hb
  · exact standardFrameOk_of_buildStandard hb
  · exact hdub bytes hr

/-- What stage TRANSPORT appends: nothing, or one Send that says what the reply is. -/
theorem sendsOf_cases (present : Bool) (reply : Reply) :
    sendsOf present reply = [] ∨
    (∃ frame, reply = .standard frame ∧ sendsOf present reply = [.send true [frame] 1]) ∨
    (∃ bytes, reply = .raw bytes ∧ sendsOf present reply = [.send false [bytes] 1]) := by
  cases reply with
  | noReply => exact .inl rfl
  | standard frame =>
    cases present
    · exact .inl rfl
    · exact .inr (.inl ⟨frame, rfl, rfl⟩)
  | raw bytes =>
    cases present
    · exact .inl rfl
    · exact .inr (.inr ⟨bytes, rfl, rfl⟩)

theorem length_sendsOf_le (present : Bool) (reply : Reply) :
    (sendsOf present reply).length ≤ 1 := by
  obtain h | ⟨_, -, h⟩ | ⟨_, -, h⟩ := sendsOf_cases present reply <;> simp [h]

theorem isSend_of_mem_sendsOf {present : Bool} {reply : Reply} {e : Event}
    (he : e ∈ sendsOf present reply) : e.isSend = true := by
  obtain h | ⟨_, -, h⟩ | ⟨_, -, h⟩ := sendsOf_cases present reply <;> rw [h] at he
  · cases he
  · cases List.mem_singleton.1 he; rfl
  · cases List.mem_singleton.1 he; rfl

theorem ok_of_mem_sendsOf {present : Bool} {reply : Reply} {e : Event} (hr : reply.ok)
    (he : e ∈ sendsOf present reply) : e.ok := by
  obtain h | ⟨frame, rfl, h⟩ | ⟨bytes, rfl, h⟩ := sendsOf_cases present reply <;> rw [h] at he
  · cases he
  · cases List.mem_singleton.1 he
    exact ⟨frame, rfl, rfl, fun _ => hr, nofun⟩
  · cases List.mem_singleton.1 he
    exact ⟨bytes, rfl, rfl, nofun, fun _ => hr⟩

theorem Event.ok_of_not_isSend {e : Event} (h : e.isSend = false) : e.ok := by
  cases e with
  | portSet _ _ => trivial
  | portClear _ _ => trivial
  | send _ _ _ => cases h

/-! ## What stage DISPATCH leaves behind (R126) -/

section
variable {s s' : State} {key : Key} {result : HandlerResult}

/-- R126: a handler writes no configuration register. -/
theorem DispatchEffect.keeps_config (h : DispatchEffect s key result s') :
    s'.initialized = s.initialized ∧ s'.cfg = s.cfg ∧ s'.sendPresent = s.sendPresent := by
  cases h <;> exact ⟨rfl, rfl, rfl⟩

/-- R25, R146: the label register stays within its 32 bytes. -/
theorem DispatchEffect.label_le (h : DispatchEffect s key result s')
    (hs : s.deviceLabel.length ≤ 32) : s'.deviceLabel.length ≤ 32 := by
  cases h with
  | label l _ hl => exact hl
  | _ => exact hs

/-- R31, R52: a handler appends at most one event, a port event. -/
theorem DispatchEffect.appends_port (h : DispatchEffect s key result s') :
    ∃ ports, s'.events = s.events ++ ports ∧ ports.length ≤ 1 ∧
      ∀ e ∈ ports, e.isSend = false := by
  cases h with
  | mute _ => exact ⟨_, rfl, le_rfl, by simp [Event.isSend]⟩
  | unMute _ => exact ⟨_, rfl, le_rfl, by simp [Event.isSend]⟩
  | identify v _ => exact ⟨_, rfl, le_rfl, by cases v <;> simp [Event.isSend]⟩
  | _ => exact ⟨[], (List.append_nil _).symm, Nat.zero_le _, by simp⟩

/-- R63, R132: a DUB result is a DUB response. -/
theorem DispatchEffect.dubFrameOk {bytes : List Byte}
    (h : DispatchEffect s key (.dub bytes) s') : dubFrameOk bytes := by
  cases h
  exact ⟨_, rfl⟩

/-- R116: the sub-device check adds a NACK and no other effect. -/
theorem outcomeOf_effect {v : RequestView}
    (h : outcomeOf dispatchByKey v s = .ok (result, s')) :
    DispatchEffect s (dispatchKey v.cc v.pid) result s' := by
  unfold outcomeOf at h
  split at h
  · exact dispatchByKey_effect h
  · cases h
    exact .nack _

end

/-! ## A request kind is HANDLE_REQUEST on its own key (R76, R77, R119) -/

/-- A transaction runs its handler on the request's own view only. -/
theorem transact_congr {h : RequestHeader} {d d' : Handler}
    (hd : ∀ (v : RequestView) (s : State), v.cc = h.cc → v.pid = h.pid → d v s = d' v s)
    (pd : List Byte) (pdLen : Nat) (s : State) :
    transact h pd pdLen d s = transact h pd pdLen d' s := by
  have hv (x : State) : d (decodeView h pd s.cfg.ownUid) x = d' (decodeView h pd s.cfg.ownUid) x :=
    hd _ x rfl rfl
  simp only [transact, gate, deliver, checkAndDispatch, hv]

/-- On a row's key the table's lookup runs that row's handler. -/
theorem transact_row {h : RequestHeader} {d : Handler} (hcc : supportedCc h.cc = true)
    (hkey : handlerOfKey (dispatchKey h.cc h.pid) = some d) (pd : List Byte) (pdLen : Nat)
    (s : State) : transact h pd pdLen d s = transact h pd pdLen dispatchByKey s := by
  refine transact_congr (fun v x hc hp => ?_) pd pdLen s
  rw [dispatchByKey, hc, hp, if_pos hcc, hkey]

/-- A request kind's transaction, with the lookup in place of its row's own handler. -/
theorem transact_kind {r : RequestOperands} {cc : Byte} {pid : Word16} {d : Handler} {key : Key}
    {s : State} (hcc : supportedCc cc = true)
    (hd : handlerOfKey (dispatchKey cc pid) = some d) (hkey : dispatchKey cc pid = key) :
    ∃ h pd pdLen, dispatchKey h.cc h.pid = key ∧
      transact (operandsHeader r cc pid) r.pd r.pdLen d s =
        transact h pd pdLen dispatchByKey s :=
  ⟨operandsHeader r cc pid, r.pd, r.pdLen, hkey,
    transact_row (h := operandsHeader r cc pid) hcc hd r.pd r.pdLen s⟩

/-- Every instruction that presents a request with 24 header bytes is one transaction with the
table's lookup. -/
theorem exec_eq_transact {i : Instr} {key : Key} (hk : keyOf i = some key) (s : State) :
    ∃ h pd pdLen, dispatchKey h.cc h.pid = key ∧
      exec i s = transact h pd pdLen dispatchByKey s := by
  cases i with
  | init _ _ => cases hk
  | verifyChecksum _ _ => cases hk
  | requiresAction _ => cases hk
  | isMuted => cases hk
  | handleRequest hdr pd pdLen =>
    obtain ⟨h, hh, rfl⟩ := Option.map_eq_some_iff.1 hk
    refine ⟨h, pd, pdLen, rfl, ?_⟩
    simp only [exec, execHandleRequest, hh]
  | discUniqueBranch r => cases hk; exact transact_kind rfl rfl rfl
  | discMute r => cases hk; exact transact_kind rfl rfl rfl
  | discUnMute r => cases hk; exact transact_kind rfl rfl rfl
  | getSupportedParameters r => cases hk; exact transact_kind rfl rfl rfl
  | getDeviceInfo r => cases hk; exact transact_kind rfl rfl rfl
  | getDeviceModelDescription r => cases hk; exact transact_kind rfl rfl rfl
  | getManufacturerLabel r => cases hk; exact transact_kind rfl rfl rfl
  | getDeviceLabel r => cases hk; exact transact_kind rfl rfl rfl
  | setDeviceLabel r => cases hk; exact transact_kind rfl rfl rfl
  | getSoftwareVersionLabel r => cases hk; exact transact_kind rfl rfl rfl
  | getIdentifyDevice r => cases hk; exact transact_kind rfl rfl rfl
  | setIdentifyDevice r => cases hk; exact transact_kind rfl rfl rfl

/-! ## One operation: everything it can complete with -/

/-- How an operation completes, by the dispatch key of the request it presents, if any. -/
inductive Completion (s : State) : Option Key → State → Prop where
  | initialised (cfg : Cfg) (present : Bool) : cfgValid cfg = true →
      Completion s none ((s.initialise cfg present).returning none)
  | returned (b : Bool) : Completion s none (s.returning (some b))
  | dropped (key : Key) : Completion s (some key) s.finish
  | replied (key : Key) (v : RequestView) (result : HandlerResult) (s' : State) (reply : Reply) :
      s.initialized = true → DispatchEffect s key result s' →
      replyPolicy v result = .ok reply → Completion s (some key) (s'.afterReply reply)

theorem transact_completion {h : RequestHeader} {pd : List Byte} {pdLen : Nat} {s t : State}
    (ht : transact h pd pdLen dispatchByKey s = .next t) :
    Completion s (some (dispatchKey h.cc h.pid)) t := by
  obtain ⟨⟨hinit, -⟩, -, ⟨-, rfl⟩ | ⟨-, -, rfl⟩ | ⟨result, s', reply, -, -, ho, hp, rfl⟩⟩ :=
    transact_next_outcome dispatchByKey_txnBlind ht
  · exact .dropped _
  · exact .dropped _
  · have heff := outcomeOf_effect ho
    rw [decodeView_cc, decodeView_pid] at heff
    exact .replied _ _ result s' reply hinit heff hp

theorem execInit_completion {cfg : Cfg} {present : Bool} {s t : State}
    (ht : execInit cfg present s = .next t) : Completion s none t := by
  obtain ⟨-, ht⟩ := whenIdle_next.1 ht
  split at ht
  · next hc => cases ht; exact .initialised cfg present hc
  · cases ht

theorem execVerifyChecksum_completion {buf : List Byte} {length : Nat} {s t : State}
    (ht : execVerifyChecksum buf length s = .next t) : Completion s none t := by
  obtain ⟨-, ht⟩ := whenReady_next.1 ht
  split at ht
  · split at ht
    · cases ht; exact .returned _
    · cases ht
  · cases ht

/-- A header that is not 24 bytes long is refused (R58, R155). -/
theorem execHandleRequest_ne_next {hdr pd : List Byte} {pdLen : Nat} {s t : State}
    (hh : headerOfBytes hdr = none) : execHandleRequest hdr pd pdLen s ≠ .next t := by
  intro ht
  rw [execHandleRequest, hh] at ht
  cases (whenReady_next.1 ht).2

/-- The one inversion of `exec`: a request completes as its transaction does, and each of the other
four operations in its own way. -/
theorem exec_completion {i : Instr} {s t : State} (ht : exec i s = .next t) :
    Completion s (keyOf i) t := by
  cases hk : keyOf i with
  | some key =>
    obtain ⟨h, pd, pdLen, rfl, heq⟩ := exec_eq_transact hk s
    exact transact_completion (heq ▸ ht)
  | none =>
    cases i with
    | init cfg present => exact execInit_completion ht
    | verifyChecksum buf length => exact execVerifyChecksum_completion ht
    | requiresAction dest => cases (whenReady_next.1 ht).2; exact .returned _
    | isMuted => cases (whenReady_next.1 ht).2; exact .returned _
    | handleRequest hdr pd pdLen =>
      exact absurd ht (execHandleRequest_ne_next (Option.map_eq_none_iff.1 hk))
    | _ => cases hk

/-! ## The invariant -/

/-- R9, R16, R25, R34, R112, R122: only INIT writes the configuration, only R146 and INIT the label,
and only stage TRANSPORT appends a Send. -/
theorem Completion.inv {s t : State} {key : Option Key} (h : Completion s key t) (hs : s.Inv) :
    t.Inv := by
  obtain ⟨hidle, hcfg, hevents⟩ := hs
  cases h with
  | initialised cfg present hc =>
    obtain ⟨-, -, -, -, hlabel⟩ := cfgValid_lengths hc
    exact ⟨hidle, fun _ => ⟨hc, hlabel⟩, hevents⟩
  | returned b => exact ⟨hidle, hcfg, hevents⟩
  | dropped key => exact ⟨rfl, hcfg, hevents⟩
  | replied key v result s' reply hinit heff hpol =>
    obtain ⟨hvalid, hlabel⟩ := hcfg hinit
    obtain ⟨-, hkept, -⟩ := heff.keeps_config
    obtain ⟨ports, hports, -, hport⟩ := heff.appends_port
    have hreply : reply.ok :=
      replyPolicy_reply_ok (fun _ hr => (hr ▸ heff).dubFrameOk) hpol
    refine ⟨rfl, fun _ => ⟨hkept ▸ hvalid, heff.label_le hlabel⟩, fun e he => ?_⟩
    simp only [State.afterReply, hports, List.mem_append] at he
    obtain (hold | hnew) | hsend := he
    · exact hevents e hold
    · exact Event.ok_of_not_isSend (hport e hnew)
    · exact ok_of_mem_sendsOf hreply hsend

/-! ## One step -/

theorem step_of_presented {s : State} {b : OpBundle} {rest : List OpBundle} {i : Instr}
    (hin : s.input = b :: rest) (hdec : decode b = .ok i) :
    step s = exec i { s with input := rest } := by
  simp only [step, fetch, hin, hdec]

/-- A step that answers a next state waits, or runs the operation presented first. -/
theorem step_next {s t : State} (h : step s = .next t) :
    (s.input = [] ∧ t = s) ∨
    ∃ b rest i, s.input = b :: rest ∧ decode b = .ok i ∧
      exec i { s with input := rest } = .next t := by
  cases hin : s.input with
  | nil =>
    simp only [step, fetch, hin] at h
    cases h
    exact .inl ⟨rfl, rfl⟩
  | cons b rest =>
    cases hdec : decode b with
    | error err =>
      obtain ⟨op⟩ := err
      simp only [step, fetch, hin, hdec] at h
      cases h
    | ok i => exact .inr ⟨b, rest, i, rfl, hdec, step_of_presented hin hdec ▸ h⟩

/-! ## The statements -/

/-- Settles O14: a step that waits changes nothing, and every way an operation can complete keeps
the invariant. -/
theorem everyStepKeepsInvariant : Obligations.EveryStepKeepsInvariant := by
  intro s t hs hstep
  obtain ⟨-, rfl⟩ | ⟨b, rest, i, -, -, hexec⟩ := step_next hstep
  · exact hs
  · have hs' : State.Inv { s with input := rest } := hs
    exact (exec_completion hexec).inv hs'

/-- Settles O46: the port event is the handler's, the Send is stage TRANSPORT's. -/
theorem traceGrowsByPortThenSend : Obligations.TraceGrowsByPortThenSend := by
  intro i s t ht
  have hc := exec_completion ht
  generalize keyOf i = key at hc ⊢
  cases hc with
  | replied key v result s' reply _ heff _ =>
    obtain ⟨ports, hports, hle, hport⟩ := heff.appends_port
    refine ⟨ports, sendsOf s'.sendPresent reply, ?_, hle, length_sendsOf_le _ _, hport,
      fun _ => isSend_of_mem_sendsOf, fun hk => by cases hk⟩
    rw [State.afterReply, hports]
  | _ => exact ⟨[], [], by simp, by simp, by simp, by simp, by simp, fun _ => ⟨rfl, rfl⟩⟩

/-- Settles O1: the equation of a step on a presented operation. -/
theorem stepRunsTheDecodedOperation : Obligations.StepRunsTheDecodedOperation :=
  fun _ _ _ _ hin hdec => step_of_presented hin hdec

end Sys2Proof.Machine

/-! PROOFS, the state family. Which operation writes which register (R18, R22 to R26, R33), that an
admitted request always completes (R165), and who reads `muted` (R33, R135). -/

namespace Sys2Proof.Machine

/-! ## A request kind is one HANDLE_REQUEST, the same in every state (R76, R119) -/

/-- A row's own transaction is HANDLE_REQUEST on the header that holds the row's key. -/
theorem transact_kind_eq_exec {r : RequestOperands} {cc : Byte} {pid : Word16} {d : Handler}
    {key : Key} (hcc : supportedCc cc = true)
    (hd : handlerOfKey (dispatchKey cc pid) = some d) (hkey : dispatchKey cc pid = key) :
    ∃ hdr pd pdLen, keyOf (.handleRequest hdr pd pdLen) = some key ∧
      ∀ s, transact (operandsHeader r cc pid) r.pd r.pdLen d s =
        exec (.handleRequest hdr pd pdLen) s := by
  refine ⟨headerBytes (operandsHeader r cc pid), r.pd, r.pdLen, ?_, fun s => ?_⟩
  · rw [keyOf, headerOfBytes_headerBytes, Option.map_some, operandsHeader_cc, operandsHeader_pid,
      hkey]
  · rw [exec, execHandleRequest, headerOfBytes_headerBytes]
    exact transact_row (h := operandsHeader r cc pid) hcc hd r.pd r.pdLen s

/-- An instruction that presents a request is HANDLE_REQUEST on one header, in whatever state. -/
theorem exec_eq_handleRequest {i : Instr} {key : Key} (hk : keyOf i = some key) :
    ∃ hdr pd pdLen, keyOf (.handleRequest hdr pd pdLen) = some key ∧
      ∀ s, exec i s = exec (.handleRequest hdr pd pdLen) s := by
  cases i with
  | init _ _ => cases hk
  | verifyChecksum _ _ => cases hk
  | requiresAction _ => cases hk
  | isMuted => cases hk
  | handleRequest hdr pd pdLen => exact ⟨hdr, pd, pdLen, hk, fun _ => rfl⟩
  | _ => cases hk; exact transact_kind_eq_exec rfl rfl rfl

/-! ## Admission (R26, R155) -/

theorem whenReady_of_not_initialized {s : State} {k : Run} (h : s.initialized = false)
    (hidle : s.txn.stage = .idle) : whenReady s k = .refused .notInitialized := by
  simp [whenReady, whenIdle, h, hidle]

theorem execHandleRequest_eq_whenReady (hdr pd : List Byte) (pdLen : Nat) (s : State) :
    ∃ k, execHandleRequest hdr pd pdLen s = whenReady s k := by
  unfold execHandleRequest
  split <;> exact ⟨_, rfl⟩

/-- Every operation but INIT stands behind the same admission test. -/
theorem exec_eq_whenReady {i : Instr} (hi : isInit i = false) (s : State) :
    ∃ k, exec i s = whenReady s k := by
  cases hk : keyOf i with
  | some key =>
    obtain ⟨hdr, pd, pdLen, -, heq⟩ := exec_eq_handleRequest hk
    exact heq s ▸ execHandleRequest_eq_whenReady hdr pd pdLen s
  | none =>
    cases i with
    | init _ _ => cases hi
    | verifyChecksum _ _ => exact ⟨_, rfl⟩
    | requiresAction _ => exact ⟨_, rfl⟩
    | isMuted => exact ⟨_, rfl⟩
    | handleRequest hdr pd pdLen => exact execHandleRequest_eq_whenReady hdr pd pdLen s
    | _ => cases hk

/-! ## The operations that present no request, one inversion each -/

theorem execInit_next {cfg : Cfg} {present : Bool} {s t : State} :
    execInit cfg present s = .next t ↔
      s.txn.stage = .idle ∧ cfgValid cfg = true ∧
        t = (s.initialise cfg present).returning none := by
  rw [execInit, whenIdle_next]
  split
  · next hc => simp only [hc, true_and, Host.Outcome.next.injEq, eq_comm (a := t)]
  · next hc => simp [hc]

theorem execRequiresAction_next {dest : Uid} {s t : State} :
    execRequiresAction dest s = .next t ↔
      Ready s ∧ t = s.returning (some (requiresAction dest s.cfg.ownUid)) := by
  rw [execRequiresAction, whenReady_next, Host.Outcome.next.injEq, eq_comm (a := t)]

theorem execIsMuted_next {s t : State} :
    execIsMuted s = .next t ↔ Ready s ∧ t = s.returning (some s.muted) := by
  rw [execIsMuted, whenReady_next, Host.Outcome.next.injEq, eq_comm (a := t)]

theorem execVerifyChecksum_next {buf : List Byte} {length : Nat} {s t : State} :
    execVerifyChecksum buf length s = .next t ↔
      Ready s ∧ checksumOperandsOk buf length = true ∧
        ∃ b, verifyChecksum buf length = .ok b ∧ t = s.returning (some b) := by
  rw [execVerifyChecksum, whenReady_next]
  split
  · next hc =>
    cases verifyChecksum buf length with
    | ok b =>
      simp only [hc, true_and, Host.Outcome.next.injEq, Except.ok.injEq, exists_eq_left',
        eq_comm (a := t)]
    | error f => simp
  · next hc => simp [hc]

/-- An operation that is neither INIT nor a request only returns a value. -/
theorem exec_returned {i : Instr} {s t : State} (hi : isInit i = false) (hk : keyOf i = none)
    (ht : exec i s = .next t) : ∃ b, t = s.returning (some b) := by
  cases i with
  | init _ _ => cases hi
  | verifyChecksum buf length =>
    obtain ⟨-, -, b, -, rfl⟩ := execVerifyChecksum_next.1 ht
    exact ⟨b, rfl⟩
  | requiresAction dest => exact ⟨_, (execRequiresAction_next.1 ht).2⟩
  | isMuted => exact ⟨_, (execIsMuted_next.1 ht).2⟩
  | handleRequest hdr pd pdLen =>
    exact absurd ht (execHandleRequest_ne_next (Option.map_eq_none_iff.1 hk))
  | _ => cases hk

/-! ## Which register an operation other than INIT writes (R33, R126) -/

/-- From `s` to `t` only the register of this dispatch key's row is written; a Mute sets `muted` and
an UnMute clears it. -/
structure OnlyWrites (key : Option Key) (s t : State) : Prop where
  initialized : t.initialized = s.initialized
  cfg : t.cfg = s.cfg
  sendPresent : t.sendPresent = s.sendPresent
  input : t.input = s.input
  txn : t.txn = s.txn ∨ t.txn = Transaction.idle
  muted : t.muted = s.muted ∨
    key = some 0x100002 ∧ t.muted = true ∨ key = some 0x100003 ∧ t.muted = false
  identifyOn : t.identifyOn = s.identifyOn ∨ key = some 0x301000
  deviceLabel : t.deviceLabel = s.deviceLabel ∨ key = some 0x300082

theorem OnlyWrites.refl (key : Option Key) (s : State) : OnlyWrites key s s :=
  ⟨rfl, rfl, rfl, rfl, .inl rfl, .inl rfl, .inl rfl, .inl rfl⟩

/-- The end of a transaction writes no register. -/
theorem OnlyWrites.afterReply {key : Option Key} {s s' : State} (h : OnlyWrites key s s')
    (reply : Reply) : OnlyWrites key s (s'.afterReply reply) :=
  ⟨h.initialized, h.cfg, h.sendPresent, h.input, .inr rfl, h.muted, h.identifyOn, h.deviceLabel⟩

theorem DispatchEffect.onlyWrites {s s' : State} {key : Key} {result : HandlerResult}
    (h : DispatchEffect s key result s') : OnlyWrites (some key) s s' := by
  have hrefl := OnlyWrites.refl (some key) s
  cases h with
  | mute hk => exact { hrefl with muted := .inr (.inl ⟨congrArg some hk, rfl⟩) }
  | unMute hk => exact { hrefl with muted := .inr (.inr ⟨congrArg some hk, rfl⟩) }
  | label _ hk => exact { hrefl with deviceLabel := .inr (congrArg some hk) }
  | identify _ hk => exact { hrefl with identifyOn := .inr (congrArg some hk) }
  | _ => exact hrefl

/-- A request writes the register of its row and nothing else that lasts. -/
theorem Completion.onlyWrites {s t : State} {key : Key} (h : Completion s (some key) t) :
    OnlyWrites (some key) s t := by
  cases h with
  | dropped _ => exact { OnlyWrites.refl (some key) s with txn := .inr rfl }
  | replied _ v result s' reply _ heff _ => exact heff.onlyWrites.afterReply reply

theorem exec_onlyWrites {i : Instr} {s t : State} (hi : isInit i = false)
    (ht : exec i s = .next t) : OnlyWrites (keyOf i) s t := by
  cases hk : keyOf i with
  | some key => exact (hk ▸ exec_completion ht).onlyWrites
  | none =>
    obtain ⟨b, rfl⟩ := exec_returned hi hk ht
    exact ⟨rfl, rfl, rfl, rfl, .inl rfl, .inl rfl, .inl rfl, .inl rfl⟩

/-- An operation that completes is INIT, or writes the register of its row only. -/
theorem exec_init_or_onlyWrites {i : Instr} {s t : State} (ht : exec i s = .next t) :
    (∃ cfg present, i = .init cfg present ∧
      t = (s.initialise cfg present).returning none) ∨
    isInit i = false ∧ OnlyWrites (keyOf i) s t := by
  cases hi : isInit i with
  | false => exact .inr ⟨rfl, exec_onlyWrites hi ht⟩
  | true =>
    cases i with
    | init cfg present => exact .inl ⟨cfg, present, rfl, (execInit_next.1 ht).2.2⟩
    | _ => cases hi

/-- An operation other than INIT leaves the block ready for the next one. -/
theorem OnlyWrites.ready {key : Option Key} {s t : State} (h : OnlyWrites key s t)
    (hs : Ready s) : Ready t := by
  obtain ⟨hinit, hidle⟩ := hs
  refine ⟨h.initialized.trans hinit, ?_⟩
  obtain htxn | htxn := h.txn
  · rw [htxn, hidle]
  · rw [htxn]; rfl

/-- An operation that is neither INIT nor a request for UnMute keeps a ready and muted block so. -/
theorem OnlyWrites.stays_muted {key : Option Key} {s t : State} (h : OnlyWrites key s t)
    (hkey : key ≠ some 0x100003) (hs : Ready s ∧ s.muted = true) : Ready t ∧ t.muted = true := by
  refine ⟨h.ready hs.1, ?_⟩
  obtain hm | ⟨-, hm⟩ | ⟨hk, -⟩ := h.muted
  · exact hm.trans hs.2
  · exact hm
  · exact absurd hk hkey

/-! ## An admitted request never faults (R165) -/

/-- The handler answers every view whose payload has the length that its PDL says (R40, R99). -/
def AnswersPayload (d : Handler) : Prop :=
  ∀ (v : RequestView) (s : State), v.payload.length = v.pdl.toNat → ∃ p, d v s = .ok p

theorem memRead_of_le {buf : List Byte} {i n : Nat} (h : i + n ≤ buf.length) :
    memRead buf i n = .ok (slice buf i n) := memRead_ok.2 ⟨h, rfl⟩

theorem handleGet_answers (data : State → List Byte) : AnswersPayload (handleGet data) := by
  intro v s _; unfold handleGet; split <;> exact ⟨_, rfl⟩

theorem handleDiscMute_answers : AnswersPayload handleDiscMute := by
  intro v s _; unfold handleDiscMute; split <;> exact ⟨_, rfl⟩

theorem handleDiscUnMute_answers : AnswersPayload handleDiscUnMute := by
  intro v s _; unfold handleDiscUnMute; split <;> exact ⟨_, rfl⟩

theorem handleDiscUniqueBranch_answers : AnswersPayload handleDiscUniqueBranch := by
  intro v s hlen
  unfold handleDiscUniqueBranch
  split
  · exact ⟨_, rfl⟩
  · split
    · next hp =>
      have h12 : v.payload.length = 12 := by rw [hlen, hp]; rfl
      rw [memRead_of_le (by omega), memRead_of_le (by omega)]
      dsimp only
      split <;> exact ⟨_, rfl⟩
    · exact ⟨_, rfl⟩

theorem handleSetDeviceLabel_answers : AnswersPayload handleSetDeviceLabel := by
  intro v s hlen
  unfold handleSetDeviceLabel
  split
  · rw [memRead_of_le (by omega)]; exact ⟨_, rfl⟩
  · exact ⟨_, rfl⟩

theorem handleSetIdentifyDevice_answers : AnswersPayload handleSetIdentifyDevice := by
  intro v s hlen
  unfold handleSetIdentifyDevice
  split
  · next hp =>
    have h1 : v.payload.length = 1 := by rw [hlen, hp]; rfl
    rw [memRead_of_le (by omega)]
    exact ⟨_, rfl⟩
  · exact ⟨_, rfl⟩

/-- Every row of the dispatch table. -/
theorem handlerTable_answers : ∀ p ∈ handlerTable, AnswersPayload p.2 := by
  simp only [handlerTable, List.forall_mem_cons]
  exact ⟨handleDiscUniqueBranch_answers, handleDiscMute_answers, handleDiscUnMute_answers,
    handleGet_answers _, handleGet_answers _, handleGet_answers _, handleGet_answers _,
    handleGet_answers _, handleSetDeviceLabel_answers, handleGet_answers _, handleGet_answers _,
    handleSetIdentifyDevice_answers, nofun⟩

theorem dispatchByKey_answers : AnswersPayload dispatchByKey := by
  intro v s hlen
  unfold dispatchByKey
  split
  · split
    · next d hd => exact handlerTable_answers _ (handlerOfKey_some hd) v s hlen
    · exact ⟨_, rfl⟩
  · exact ⟨_, rfl⟩

theorem AnswersPayload.outcomeOf {d : Handler} (hd : AnswersPayload d) {v : RequestView}
    (hlen : v.payload.length = v.pdl.toNat) (s : State) :
    ∃ result s', outcomeOf d v s = .ok (result, s') := by
  unfold Machine.outcomeOf
  split
  · obtain ⟨⟨result, s'⟩, h⟩ := hd v s hlen
    exact ⟨result, s', h⟩
  · exact ⟨_, _, rfl⟩

/-- R9, R25: under the bounds on configuration and label, what a handler answers fits a frame. -/
theorem DispatchEffect.length_ack_le {s s' : State} {key : Key} {data : List Byte}
    (h : DispatchEffect s key (.ack data) s') (hcfg : cfgValid s.cfg = true)
    (hlabel : s.deviceLabel.length ≤ 32) : data.length ≤ 231 := by
  cases h with
  | get _ hfits => exact hfits hcfg hlabel
  | mute _ => simp
  | unMute _ => simp
  | label _ _ _ => simp
  | identify _ _ => simp

theorem buildStandard_of_length_le (v : RequestView) (rtype : Byte) {data : List Byte}
    (h : data.length ≤ 231) : ∃ frame, buildStandard v rtype data = .ok frame :=
  ⟨_, buildStandard_eq_replyFrame v rtype h⟩

/-- The reply policy fails on an ACK that is too long only (R111). -/
theorem exists_replyPolicy_ok (v : RequestView) {result : HandlerResult}
    (h : ∀ data, result = .ack data → data.length ≤ 231) :
    ∃ reply, replyPolicy v result = .ok reply := by
  cases result with
  | ack data =>
    obtain ⟨frame, hf⟩ := buildStandard_of_length_le v rtAck (h data rfl)
    rw [replyPolicy, buildAck, hf]
    split <;> exact ⟨_, rfl⟩
  | nack reason =>
    obtain ⟨frame, hf⟩ :=
      buildStandard_of_length_le v rtNackReason (data := be16 reason) (by simp)
    rw [replyPolicy, buildNack, hf]
    split <;> exact ⟨_, rfl⟩
  | dub bytes => exact ⟨_, rfl⟩
  | silent => exact ⟨_, rfl⟩

/-- R163, R165: a request with well-formed operands completes, whatever its header says. -/
theorem transact_completes {h : RequestHeader} {pd : List Byte} {pdLen : Nat} {s : State}
    (hr : Ready s) (hops : OperandsOk pd pdLen) (hcfg : cfgValid s.cfg = true)
    (hlabel : s.deviceLabel.length ≤ 32) :
    ∃ t, transact h pd pdLen dispatchByKey s = .next t := by
  have hp : paramDataOk pd pdLen = true := paramDataOk_iff.2 hops
  cases hd : decodeCheck h pdLen with
  | false => exact ⟨_, transact_dropped hr hp (.inl hd)⟩
  | true =>
    by_cases hg : addressClass h.dest s.cfg.ownUid = .other
    · exact ⟨_, transact_dropped hr hp (.inr hg)⟩
    obtain ⟨-, -, hpdl, -⟩ := decodeCheck_iff.1 hd
    obtain ⟨result, s', ho⟩ := dispatchByKey_answers.outcomeOf
      (v := decodeView h pd s.cfg.ownUid) (hops.1.trans hpdl.symm) s
    obtain ⟨reply, hreply⟩ := exists_replyPolicy_ok (decodeView h pd s.cfg.ownUid)
      (result := result) fun _ hack => (hack ▸ outcomeOf_effect ho).length_ack_le hcfg hlabel
    rw [transact_passed dispatchByKey_txnBlind hr hp hd hg, ho]
    exact ⟨s'.afterReply reply, by simp only [hreply]⟩

/-- R34, R57: a request that completes leaves nothing transient and returns nothing. -/
theorem Completion.ends_transaction {s t : State} {key : Key} (h : Completion s (some key) t) :
    t.txn = Transaction.idle ∧ t.result = none := by
  cases h <;> exact ⟨rfl, rfl⟩

/-! ## A delivered request kind (R113, R119) -/

/-- A request kind that reaches its handler: the handler's effect, then the reply. -/
theorem transact_of_delivered {r : RequestOperands} {cc : Byte} {pid : Word16} {d : Handler}
    {s s' : State} {result : HandlerResult} {reply : Reply} (hb : TxnBlind d) (hr : Ready s)
    (hdel : Delivered r s)
    (hd : d (decodeView (operandsHeader r cc pid) r.pd s.cfg.ownUid) s = .ok (result, s'))
    (hp : replyPolicy (decodeView (operandsHeader r cc pid) r.pd s.cfg.ownUid) result =
      .ok reply) :
    transact (operandsHeader r cc pid) r.pd r.pdLen d s = .next (s'.afterReply reply) := by
  obtain ⟨hops, hdec, hg, hsub⟩ := hdel
  have ho : outcomeOf d (decodeView (operandsHeader r cc pid) r.pd s.cfg.ownUid) s =
      .ok (result, s') := by rw [outcomeOf, if_pos (by exact hsub), hd]
  have hdec' : decodeCheck (operandsHeader r cc pid) r.pdLen = true := decodeCheck_iff.2 hdec
  rw [transact_passed hb hr (paramDataOk_iff.2 hops)
    hdec' hg, ho]
  simp only [hp]

/-- R127: a delivered Mute with no parameter data completes with `muted` set. -/
theorem exec_discMute_delivered {r : RequestOperands} {s : State} (hr : Ready s)
    (hdel : Delivered r s) (hpdl : r.pdl = 0) :
    ∃ reply, exec (.discMute r) s = .next ((s.setMuted true).afterReply reply) := by
  obtain ⟨reply, hp⟩ := exists_replyPolicy_ok (result := .ack (be16 muteControlField))
    (decodeView (operandsHeader r ccDiscovery pidDiscMute) r.pd s.cfg.ownUid)
    fun data hdata => by cases hdata; simp
  exact ⟨reply, transact_of_delivered handleDiscMute_txnBlind hr hdel (if_pos hpdl) hp⟩

/-- R128: a delivered UnMute with no parameter data completes with `muted` clear. -/
theorem exec_discUnMute_delivered {r : RequestOperands} {s : State} (hr : Ready s)
    (hdel : Delivered r s) (hpdl : r.pdl = 0) :
    ∃ reply, exec (.discUnMute r) s = .next ((s.setMuted false).afterReply reply) := by
  obtain ⟨reply, hp⟩ := exists_replyPolicy_ok (result := .ack (be16 muteControlField))
    (decodeView (operandsHeader r ccDiscovery pidDiscUnMute) r.pd s.cfg.ownUid)
    fun data hdata => by cases hdata; simp
  exact ⟨reply, transact_of_delivered handleDiscUnMute_txnBlind hr hdel (if_pos hpdl) hp⟩

/-- R135: a muted block answers a delivered DUB with silence. -/
theorem exec_discUniqueBranch_muted {r : RequestOperands} {s : State} (hr : Ready s)
    (hdel : Delivered r s) (hm : s.muted = true) :
    exec (.discUniqueBranch r) s = .next (s.completed []) :=
  transact_of_delivered (reply := .noReply) handleDiscUniqueBranch_txnBlind hr hdel
    (if_pos hm) rfl

/-! ## Who reads `muted` (R33, R98, R135) -/

/-- The state with another value of `muted`. -/
def State.withMuted (s : State) (b : Bool) : State := { s with muted := b }

/-- On this view the handler answers the same whatever `muted` holds, and leaves the same state but
for `muted`. -/
def IgnoresMuted (d : Handler) (v : RequestView) : Prop :=
  ∀ (s : State) (b : Bool), ∃ m,
    d v (s.withMuted b) = (d v s).map fun p => (p.1, p.2.withMuted m)

theorem handleGet_ignoresMuted {data : State → List Byte}
    (hd : ∀ (s : State) (b : Bool), data (s.withMuted b) = data s) (v : RequestView) :
    IgnoresMuted (handleGet data) v := by
  intro s b
  unfold handleGet
  rw [hd]
  split <;> exact ⟨b, rfl⟩

theorem handleDiscMute_ignoresMuted (v : RequestView) : IgnoresMuted handleDiscMute v := by
  intro s b
  unfold handleDiscMute
  split
  · exact ⟨true, rfl⟩
  · exact ⟨b, rfl⟩

theorem handleDiscUnMute_ignoresMuted (v : RequestView) : IgnoresMuted handleDiscUnMute v := by
  intro s b
  unfold handleDiscUnMute
  split
  · exact ⟨false, rfl⟩
  · exact ⟨b, rfl⟩

theorem handleSetDeviceLabel_ignoresMuted (v : RequestView) :
    IgnoresMuted handleSetDeviceLabel v := by
  intro s b
  unfold handleSetDeviceLabel
  split
  · split <;> exact ⟨b, rfl⟩
  · exact ⟨b, rfl⟩

theorem handleSetIdentifyDevice_ignoresMuted (v : RequestView) :
    IgnoresMuted handleSetIdentifyDevice v := by
  intro s b
  unfold handleSetIdentifyDevice
  split
  · split <;> exact ⟨b, rfl⟩
  · exact ⟨b, rfl⟩

/-- Every row of the dispatch table but DISC_UNIQUE_BRANCH. -/
theorem handlerTable_ignoresMuted :
    ∀ p ∈ handlerTable, p.1 ≠ 0x100001 → ∀ v, IgnoresMuted p.2 v := by
  simp only [handlerTable, List.forall_mem_cons]
  exact ⟨fun h => absurd rfl h, fun _ => handleDiscMute_ignoresMuted,
    fun _ => handleDiscUnMute_ignoresMuted, fun _ => handleGet_ignoresMuted fun _ _ => rfl,
    fun _ => handleGet_ignoresMuted fun _ _ => rfl,
    fun _ => handleGet_ignoresMuted fun _ _ => rfl,
    fun _ => handleGet_ignoresMuted fun _ _ => rfl,
    fun _ => handleGet_ignoresMuted fun _ _ => rfl, fun _ => handleSetDeviceLabel_ignoresMuted,
    fun _ => handleGet_ignoresMuted fun _ _ => rfl,
    fun _ => handleGet_ignoresMuted fun _ _ => rfl,
    fun _ => handleSetIdentifyDevice_ignoresMuted, nofun⟩

theorem dispatchByKey_ignoresMuted {v : RequestView} (h : dispatchKey v.cc v.pid ≠ 0x100001) :
    IgnoresMuted dispatchByKey v := by
  intro s b
  unfold dispatchByKey
  split
  · split
    · next d hd => exact handlerTable_ignoresMuted _ (handlerOfKey_some hd) h v s b
    · exact ⟨b, rfl⟩
  · exact ⟨b, rfl⟩

theorem IgnoresMuted.outcomeOf {d : Handler} {v : RequestView} (hd : IgnoresMuted d v) :
    IgnoresMuted (outcomeOf d) v := by
  intro s b
  unfold Machine.outcomeOf
  split
  · exact hd s b
  · exact ⟨b, rfl⟩

/-- A transaction on any key but that of DISC_UNIQUE_BRANCH does the same whatever `muted` holds:
the stages around the handler never read it. -/
theorem transact_withMuted {h : RequestHeader} {pd : List Byte} {pdLen : Nat} {s t : State}
    (hkey : dispatchKey h.cc h.pid ≠ 0x100001)
    (ht : transact h pd pdLen dispatchByKey s = .next t) (b : Bool) :
    ∃ m, transact h pd pdLen dispatchByKey (s.withMuted b) = .next (t.withMuted m) := by
  obtain ⟨hr, hp, ⟨hd, rfl⟩ | ⟨-, hg, rfl⟩ | ⟨result, s', reply, hd, hg, ho, hpol, rfl⟩⟩ :=
    transact_next_outcome dispatchByKey_txnBlind ht
  · exact ⟨b, transact_dropped (s := s.withMuted b) hr hp (.inl hd)⟩
  · exact ⟨b, transact_dropped (s := s.withMuted b) hr hp (.inr hg)⟩
  · have hblind : IgnoresMuted dispatchByKey (decodeView h pd s.cfg.ownUid) :=
      dispatchByKey_ignoresMuted hkey
    obtain ⟨m, hm⟩ := hblind.outcomeOf s b
    rw [ho] at hm
    refine ⟨m, ?_⟩
    rw [transact_passed (s := s.withMuted b) dispatchByKey_txnBlind hr hp hd hg]
    have hcfg : (s.withMuted b).cfg = s.cfg := rfl
    rw [hcfg, hm]
    simp only [Except.map, hpol]
    rfl

theorem execHandleRequest_withMuted {hdr pd : List Byte} {pdLen : Nat} {s t : State}
    (hkey : keyOf (.handleRequest hdr pd pdLen) ≠ some 0x100001)
    (ht : execHandleRequest hdr pd pdLen s = .next t) (b : Bool) :
    ∃ m, execHandleRequest hdr pd pdLen (s.withMuted b) = .next (t.withMuted m) := by
  cases hh : headerOfBytes hdr with
  | none => exact absurd ht (execHandleRequest_ne_next hh)
  | some h =>
    rw [keyOf, hh] at hkey
    simp only [execHandleRequest, hh] at ht ⊢
    exact transact_withMuted (fun hk => hkey (congrArg some hk)) ht b

/-! ## The statements -/

/-- Settles O16: INIT sets `initialized`, no other operation writes it, and every other operation
stands behind the admission test that reads it. -/
theorem initializedGatesEveryOperation : Obligations.InitializedGatesEveryOperation := by
  refine ⟨rfl, fun cfg p s t ht => ?_, fun i s t ht hs => ?_, fun i s t ht hne => ?_,
    fun i s hi hs hidle => ?_⟩
  · obtain ⟨-, -, rfl⟩ := execInit_next.1 ht
    rfl
  · obtain ⟨cfg, p, rfl, rfl⟩ | ⟨-, hw⟩ := exec_init_or_onlyWrites ht
    · rfl
    · exact hw.initialized.trans hs
  · obtain ⟨cfg, p, rfl, rfl⟩ | ⟨-, hw⟩ := exec_init_or_onlyWrites ht
    · rfl
    · exact absurd hw.initialized hne
  · obtain ⟨k, hk⟩ := exec_eq_whenReady hi s
    rw [hk, whenReady_of_not_initialized hs hidle]

/-- Settles O33: the transaction cannot fault under the invariant, and how it completes says the
rest. -/
theorem handleRequestCompletes : Obligations.HandleRequestCompletes := by
  intro hdr pd pdLen s hr hinv hlen hops
  obtain ⟨-, hbounds, -⟩ := hinv
  obtain ⟨hcfg, hlabel⟩ := hbounds hr.1
  cases hh : headerOfBytes hdr with
  | none => exact absurd hlen (headerOfBytes_eq_none.1 hh)
  | some h =>
    obtain ⟨t, ht⟩ := transact_completes (h := h) hr hops hcfg hlabel
    have hexec : exec (.handleRequest hdr pd pdLen) s = .next t := by
      simp only [exec, execHandleRequest, hh, ht]
    have hc := transact_completion ht
    have hw := hc.onlyWrites
    obtain ⟨hidle, hresult⟩ := hc.ends_transaction
    obtain ⟨ports, sends, hevents, -⟩ := traceGrowsByPortThenSend _ s t hexec
    exact ⟨t, ports ++ sends, hexec, by rw [hevents, List.append_assoc], hidle, hresult,
      hw.initialized.trans hr.1, hw.cfg, hw.sendPresent, hw.input⟩

/-- Settles O45: an operation other than INIT writes the register of its row only. -/
theorem registersChangeOnlyByTheirWriters : Obligations.RegistersChangeOnlyByTheirWriters := by
  intro i s t ht
  obtain ⟨cfg, p, rfl, rfl⟩ | ⟨-, hw⟩ := exec_init_or_onlyWrites ht
  · exact ⟨fun _ => rfl, fun _ => rfl, fun _ => rfl, fun _ => .inl rfl, fun _ => .inl rfl,
      fun _ => .inl rfl, rfl⟩
  · exact ⟨fun hne => absurd hw.cfg hne, fun hne => absurd hw.sendPresent hne,
      fun hne => absurd hw.initialized hne,
      fun hne => .inr ((hw.muted.resolve_left hne).imp And.left And.left),
      fun hne => .inr (hw.identifyOn.resolve_left hne),
      fun hne => .inr (hw.deviceLabel.resolve_left hne), hw.input⟩

/-- Settles O48: INIT overwrites `muted`, VERIFY_CHECKSUM and REQUIRES_ACTION do not look at it, and
of the handlers only that of DISC_UNIQUE_BRANCH reads it. -/
theorem mutedIsReadOnlyByDubAndIsMuted : Obligations.MutedIsReadOnlyByDubAndIsMuted := by
  intro i s t b hkey hi ht
  cases hk : keyOf i with
  | some key =>
    obtain ⟨hdr, pd, pdLen, hkey', heq⟩ := exec_eq_handleRequest hk
    rw [heq] at ht ⊢
    exact execHandleRequest_withMuted (hkey'.trans hk.symm ▸ hkey) ht b
  | none =>
    cases i with
    | init cfg p => exact ⟨t.muted, ht⟩
    | verifyChecksum buf length =>
      obtain ⟨hr, hok, c, hc, rfl⟩ := execVerifyChecksum_next.1 ht
      exact ⟨b, execVerifyChecksum_next.2 ⟨hr, hok, c, hc, rfl⟩⟩
    | requiresAction dest =>
      obtain ⟨hr, rfl⟩ := execRequiresAction_next.1 ht
      exact ⟨b, execRequiresAction_next.2 ⟨hr, rfl⟩⟩
    | isMuted => exact absurd rfl hi
    | handleRequest hdr pd pdLen => exact execHandleRequest_withMuted hkey ht b
    | _ => cases hk

/-- Settles O12: both values stand in the reset state. -/
theorem powerOnState : Obligations.PowerOnState := ⟨rfl, rfl⟩

/-- Settles O13: before INIT nothing is asked of the configuration, and the trace is empty. -/
theorem resetSatisfiesInvariant : Obligations.ResetSatisfiesInvariant :=
  ⟨rfl, fun hinit => (by cases hinit), fun _ he => (by cases he)⟩

/-- Settles O19: IS_MUTED is admitted in a ready state, and returns the flag. -/
theorem isMutedReturnsTheFlag : Obligations.IsMutedReturnsTheFlag :=
  fun _ hr => execIsMuted_next.2 ⟨hr, rfl⟩

/-- Settles O39: ready and muted is an invariant of the run, and decides what IS_MUTED, DUB and
UnMute do at its end. -/
theorem muteGatesDiscovery : Obligations.MuteGatesDiscovery := by
  intro m s hr hdel hpdl
  obtain ⟨reply, hmute⟩ := exec_discMute_delivered hr hdel hpdl
  refine ⟨_, hmute, fun ops w hops hrun => ?_⟩
  have hstart : Ready ((s.setMuted true).afterReply reply) ∧
      ((s.setMuted true).afterReply reply).muted = true := ⟨⟨hr.1, rfl⟩, rfl⟩
  obtain ⟨hready, hmuted⟩ : Ready w ∧ w.muted = true :=
    execAll_induction (P := fun x => Ready x ∧ x.muted = true)
      (fun i hi a c ha hc =>
        (exec_onlyWrites (hops i hi).1 hc).stays_muted (hops i hi).2 ha)
      hstart hrun
  refine ⟨hmuted ▸ isMutedReturnsTheFlag w hready,
    fun d hd => exec_discUniqueBranch_muted hready hd hmuted, fun u hu hupdl => ?_⟩
  obtain ⟨reply', hunmute⟩ := exec_discUnMute_delivered hready hu hupdl
  exact ⟨_, hunmute, isMutedReturnsTheFlag _ ⟨hready.1, rfl⟩⟩

end Sys2Proof.Machine

/-! PROOFS, the memory family: how the multi-byte fields lie in the slots of a frame (R44 to R46), and
how a request's frame is taken apart again (R40, R59, R72). -/

namespace Sys2Proof

/-! ## The two parts of a UID (R19, R45) -/

/-- A field of a field is a field of the whole. -/
theorem extractLsb'_of_field {w start len start' len' : Nat} (h : start' + len' ≤ len)
    (x : BitVec w) :
    (x.extractLsb' start len).extractLsb' start' len' = x.extractLsb' (start + start') len' := by
  apply BitVec.eq_of_getElem_eq
  intro i hi
  have hfield : start' + i < len := by omega
  simp only [BitVec.getElem_extractLsb', BitVec.getLsbD_extractLsb', hfield, decide_true,
    Bool.true_and, Nat.add_assoc]

theorem be16_manufacturerId (u : Uid) :
    be16 (manufacturerId u) = [u.extractLsb' 40 8, u.extractLsb' 32 8] := by
  simp [be16, manufacturerId, extractLsb'_of_field]

theorem be32_deviceId (u : Uid) :
    be32 (deviceId u) =
      [u.extractLsb' 24 8, u.extractLsb' 16 8, u.extractLsb' 8 8, u.extractLsb' 0 8] := by
  simp [be32, deviceId, extractLsb'_of_field]

theorem be48_eq_manufacturerId_append_deviceId (u : Uid) :
    be48 u = be16 (manufacturerId u) ++ be32 (deviceId u) := by
  rw [be16_manufacturerId, be32_deviceId]
  rfl

/-- R19: manufacturer ID and device ID are quotient and remainder of the UID by `2 ^ 32`. -/
theorem toNat_eq_manufacturerId_deviceId (u : Uid) :
    u.toNat = (manufacturerId u).toNat * 4294967296 + (deviceId u).toNat := by
  have hm : (manufacturerId u).toNat = u.toNat / 4294967296 % 65536 := by
    rw [manufacturerId, BitVec.extractLsb'_toNat, Nat.shiftRight_eq_div_pow]
  have hd : (deviceId u).toNat = u.toNat % 4294967296 := by
    rw [deviceId, BitVec.extractLsb'_toNat, Nat.shiftRight_zero]
  have hu := u.isLt
  omega

/-! ## The frame of a request (R59, R72) -/

theorem length_requestFrame (h : RequestHeader) (pd : List Byte) :
    (requestFrame h pd).length = 26 + pd.length := by
  simp only [requestFrame, List.length_append, length_headerBytes, length_be16]
  omega

/-- R59: slot 23 is the PDL slot. -/
@[simp] theorem slot_requestFrame_pdl (h : RequestHeader) (pd : List Byte) :
    slot (requestFrame h pd) 23 = h.pdl := rfl

end Sys2Proof

namespace Sys2Proof.Machine

theorem slice_requestFrame_header (h : RequestHeader) (pd : List Byte) :
    slice (requestFrame h pd) 0 24 = headerBytes h := by
  rw [requestFrame, List.append_assoc, slice_append_left (length_headerBytes h)]

theorem slice_requestFrame_data (h : RequestHeader) (pd : List Byte) :
    slice (requestFrame h pd) 24 pd.length = pd := by
  rw [requestFrame, List.append_assoc, slice, List.drop_left' (length_headerBytes h),
    List.take_left]

theorem verifyChecksum_requestFrame (h : RequestHeader) (pd : List Byte) :
    verifyChecksum (requestFrame h pd) (26 + pd.length) = .ok true := by
  rw [← length_requestFrame h pd]
  exact verifyChecksum_append_checksum (by simp)

/-- R40, R72: a frame whose PDL slot gives the length of its data is presented as header and data. -/
theorem bundleOfFrame_requestFrame {h : RequestHeader} {pd : List Byte}
    (hpdl : h.pdl.toNat = pd.length) :
    bundleOfFrame (requestFrame h pd) = some (requestBundle (headerBytes h) pd pd.length) := by
  have hlen := length_requestFrame h pd
  have hwhole : minFrame ≤ (requestFrame h pd).length ∧
      (requestFrame h pd).length = frameLength (requestFrame h pd) := by
    rw [frameLength, slot_requestFrame_pdl, hpdl, hlen]
    exact ⟨Nat.le_add_right _ _, rfl⟩
  rw [bundleOfFrame, if_pos hwhole, slot_requestFrame_pdl, hpdl, slice_requestFrame_header,
    slice_requestFrame_data]

/-! ## The statements -/

/-- Settles O10: header, data and checksum are appended in this order, and the length of the data
stands in slot 23. -/
theorem assembledFrameIsPresented : Obligations.AssembledFrameIsPresented :=
  fun h pd hpdl => ⟨length_requestFrame h pd, verifyChecksum_requestFrame h pd,
    bundleOfFrame_requestFrame hpdl⟩

/-- Settles O7: the bytes and the value of a UID from its two parts, and the read-back law of
`be48`. -/
theorem uidSlots : Obligations.UidSlots :=
  fun u => ⟨be48_eq_manufacturerId_append_deviceId u, toNat_eq_manufacturerId_deviceId u,
    fromBe_be48 u⟩

end Sys2Proof.Machine

/-! PROOFS, the encoding family. The dispatch key (R71), the decoder and the encoder on both levels
(R56), and what HANDLE_REQUEST does by the key its header holds (R77, R117, R119). -/

namespace Sys2Proof

/-! ## The dispatch key (R71) -/

/-- Bits [23:16] of a dispatch key are the command class. -/
theorem extractLsb'_dispatchKey_class (cc : Byte) (pid : Word16) :
    (dispatchKey cc pid).extractLsb' 16 8 = cc := by
  ext i hi
  have hfit : 16 + i < 24 := by omega
  simp [dispatchKey, hi, hfit]

/-- Bits [15:0] of a dispatch key are the PID. -/
theorem extractLsb'_dispatchKey_pid (cc : Byte) (pid : Word16) :
    (dispatchKey cc pid).extractLsb' 0 16 = pid := by
  ext i hi
  have hfit : i < 24 := by omega
  simp [dispatchKey, hi, hfit]

theorem dispatchKey_inj {cc cc' : Byte} {pid pid' : Word16}
    (h : dispatchKey cc pid = dispatchKey cc' pid') : cc = cc' ∧ pid = pid' := by
  have hcc := congrArg (BitVec.extractLsb' 16 8) h
  have hpid := congrArg (BitVec.extractLsb' 0 16) h
  rw [extractLsb'_dispatchKey_class, extractLsb'_dispatchKey_class] at hcc
  rw [extractLsb'_dispatchKey_pid, extractLsb'_dispatchKey_pid] at hpid
  exact ⟨hcc, hpid⟩

theorem toNat_dispatchKey (cc : Byte) (pid : Word16) :
    (dispatchKey cc pid).toNat = cc.toNat * 65536 + pid.toNat := by
  have hcc : (dispatchKey cc pid).toNat / 65536 % 256 = cc.toNat := by
    conv_rhs => rw [← extractLsb'_dispatchKey_class cc pid]
    rw [BitVec.extractLsb'_toNat, Nat.shiftRight_eq_div_pow]
  have hpid : (dispatchKey cc pid).toNat % 65536 = pid.toNat := by
    conv_rhs => rw [← extractLsb'_dispatchKey_pid cc pid]
    rw [BitVec.extractLsb'_toNat, Nat.shiftRight_zero]
  have := (dispatchKey cc pid).isLt
  omega

/-! ## A request kind's operands and its header (R59, R60) -/

@[simp] theorem operandsOfHeader_operandsHeader (r : RequestOperands) (cc : Byte) (pid : Word16) :
    operandsOfHeader (operandsHeader r cc pid) r.pd r.pdLen = r := rfl

@[simp] theorem operandsHeader_operandsOfHeader (h : RequestHeader) (pd : List Byte)
    (pdLen : Nat) : operandsHeader (operandsOfHeader h pd pdLen) h.cc h.pid = h := rfl

/-! ## Level 2: the rows of the dispatch table (R76, R77) -/

/-- A key that is no row of R76. -/
theorem requestOfKey_eq_none {key : Key} (h : requestKeys.contains key = false) :
    requestOfKey key = none := Machine.lookup_eq_none h

/-- Every row's constructor is encoded with the command class and PID that make up its key. -/
theorem requestTable_encode :
    ∀ row ∈ requestTable, ∃ cc pid,
      (∀ r, encode (row.2 r) = kindBundle r cc pid) ∧ row.1 = dispatchKey cc pid := by
  simp only [requestTable, List.forall_mem_cons]
  exact ⟨⟨_, _, fun _ => rfl, rfl⟩, ⟨_, _, fun _ => rfl, rfl⟩, ⟨_, _, fun _ => rfl, rfl⟩,
    ⟨_, _, fun _ => rfl, rfl⟩, ⟨_, _, fun _ => rfl, rfl⟩, ⟨_, _, fun _ => rfl, rfl⟩,
    ⟨_, _, fun _ => rfl, rfl⟩, ⟨_, _, fun _ => rfl, rfl⟩, ⟨_, _, fun _ => rfl, rfl⟩,
    ⟨_, _, fun _ => rfl, rfl⟩, ⟨_, _, fun _ => rfl, rfl⟩, ⟨_, _, fun _ => rfl, rfl⟩, nofun⟩

/-- The constructor that a key selects is encoded with that key. -/
theorem encode_of_requestOfKey {cc : Byte} {pid : Word16} {kind : RequestOperands → Instr}
    (h : requestOfKey (dispatchKey cc pid) = some kind) (r : RequestOperands) :
    encode (kind r) = kindBundle r cc pid := by
  obtain ⟨cc', pid', henc, hkey⟩ := requestTable_encode _ (Machine.mem_of_lookup h)
  obtain ⟨rfl, rfl⟩ := dispatchKey_inj hkey
  exact henc r

theorem decodeRequest_of_not_selectsRow {hdr : List Byte} (h : selectsRow hdr = false)
    (pd : List Byte) (pdLen : Nat) : decodeRequest hdr pd pdLen = .handleRequest hdr pd pdLen := by
  unfold decodeRequest
  cases hh : headerOfBytes hdr with
  | none => rfl
  | some f =>
    rw [selectsRow, hh] at h
    simp only [requestOfKey_eq_none h]

theorem decodeRequest_of_requestOfKey {cc : Byte} {pid : Word16} {kind : RequestOperands → Instr}
    (h : requestOfKey (dispatchKey cc pid) = some kind) (r : RequestOperands) :
    decodeRequest (headerBytes (operandsHeader r cc pid)) r.pd r.pdLen = kind r := by
  simp only [decodeRequest, headerOfBytes_headerBytes, Machine.operandsHeader_cc,
    Machine.operandsHeader_pid, h, operandsOfHeader_operandsHeader]

/-- R59, R60: encoding what level 2 reads gives back header, parameter data and length, whichever
instruction was read. -/
theorem encode_decodeRequest (hdr pd : List Byte) (pdLen : Nat) :
    encode (decodeRequest hdr pd pdLen) = requestBundle hdr pd pdLen := by
  unfold decodeRequest
  split
  · rfl
  · next h hh =>
    split
    · rfl
    · next kind hk =>
      rw [encode_of_requestOfKey hk, kindBundle, operandsHeader_operandsOfHeader,
        headerBytes_of_headerOfBytes hh]
      rfl

/-! ## Level 1: the selects (R57, R81) -/

theorem decode_kindBundle {cc : Byte} {pid : Word16} {kind : RequestOperands → Instr}
    (h : requestOfKey (dispatchKey cc pid) = some kind) (r : RequestOperands) :
    decode (kindBundle r cc pid) = .ok (kind r) :=
  congrArg Except.ok (decodeRequest_of_requestOfKey h r)

/-- The five selects of R57: what a bundle that decodes can be. -/
theorem decode_ok {b : OpBundle} {i : Instr} (h : decode b = .ok i) :
    (b.op = 0b000 ∧ i = .init b.cfg b.sendPresent) ∨
    (b.op = 0b001 ∧ i = .verifyChecksum b.buf b.length) ∨
    (b.op = 0b010 ∧ i = .requiresAction b.dest) ∨
    (b.op = 0b011 ∧ i = decodeRequest b.hdr b.pd b.pdLen) ∨
    (b.op = 0b100 ∧ i = .isMuted) := by
  unfold decode at h
  split at h <;> cases h
  case h_1 hop => exact .inl ⟨BitVec.eq_of_toNat_eq hop, rfl⟩
  case h_2 hop => exact .inr (.inl ⟨BitVec.eq_of_toNat_eq hop, rfl⟩)
  case h_3 hop => exact .inr (.inr (.inl ⟨BitVec.eq_of_toNat_eq hop, rfl⟩))
  case h_4 hop => exact .inr (.inr (.inr (.inl ⟨BitVec.eq_of_toNat_eq hop, rfl⟩)))
  case h_5 hop => exact .inr (.inr (.inr (.inr ⟨BitVec.eq_of_toNat_eq hop, rfl⟩)))

theorem decode_reserved {b : OpBundle} (h : b.op = 0b101 ∨ b.op = 0b110 ∨ b.op = 0b111) :
    decode b = .error (.reservedSelect b.op) := by
  unfold decode
  obtain h | h | h := h <;> rw [h] <;> rfl

/-! ## The forms of a UID (R70) -/

theorem uid_eq_of_parts {u v : Uid} (hm : manufacturerId u = manufacturerId v)
    (hd : deviceId u = deviceId v) : u = v := by
  apply BitVec.eq_of_toNat_eq
  rw [toNat_eq_manufacturerId_deviceId, toNat_eq_manufacturerId_deviceId, hm, hd]

theorem toNat_vendorcast (m : Word16) :
    (vendorcast m).toNat = m.toNat * 4294967296 + 4294967295 := by
  have hm := m.isLt
  have hshift : (m.setWidth 48 <<< 32).toNat = m.toNat <<< 32 := by
    simp only [BitVec.toNat_shiftLeft, BitVec.toNat_setWidth, Nat.shiftLeft_eq]
    omega
  have hones : (0xFFFFFFFF : Uid).toNat = 4294967295 := rfl
  have hlow : (4294967295 : Nat) < 2 ^ 32 := by decide
  rw [vendorcast, BitVec.toNat_or, hshift, hones, ← Nat.shiftLeft_add_eq_or_of_lt hlow,
    Nat.shiftLeft_eq]

theorem manufacturerId_vendorcast (m : Word16) : manufacturerId (vendorcast m) = m := by
  apply BitVec.eq_of_toNat_eq
  have hm := m.isLt
  rw [manufacturerId, BitVec.extractLsb'_toNat, toNat_vendorcast, Nat.shiftRight_eq_div_pow]
  omega

theorem deviceId_vendorcast (m : Word16) : deviceId (vendorcast m) = 0xFFFFFFFF := by
  apply BitVec.eq_of_toNat_eq
  rw [deviceId, BitVec.extractLsb'_toNat, toNat_vendorcast, Nat.shiftRight_zero,
    Nat.mul_add_mod_of_lt (by decide)]
  rfl

/-- R93 tests for a vendorcast UID by its two parts. -/
theorem parts_iff_vendorcast {u : Uid} {m : Word16} :
    deviceId u = 0xFFFFFFFF ∧ manufacturerId u = m ↔ u = vendorcast m := by
  constructor
  · rintro ⟨hd, hm⟩
    exact uid_eq_of_parts (hm.trans (manufacturerId_vendorcast m).symm)
      (hd.trans (deviceId_vendorcast m).symm)
  · rintro rfl
    exact ⟨deviceId_vendorcast m, manufacturerId_vendorcast m⟩

/-! ## Byte strings as numbers (R10) -/

theorem fromBe_append_singleton (bs : List Byte) (b : Byte) :
    fromBe (bs ++ [b]) = fromBe bs * 256 + b.toNat := by
  simp [fromBe]

theorem fromBe_lt (bs : List Byte) : fromBe bs < 256 ^ bs.length := by
  induction bs using List.reverseRecOn with
  | nil => simp [fromBe]
  | append_singleton bs b ih =>
    rw [fromBe_append_singleton, List.length_append, List.length_singleton, pow_succ]
    have := b.isLt
    omega

/-- Six bytes fit a UID. -/
theorem toNat_uid_of_fromBe {bs : List Byte} (h : bs.length = 6) :
    (BitVec.ofNat 48 (fromBe bs)).toNat = fromBe bs := by
  have hlt := fromBe_lt bs
  rw [h] at hlt
  exact Nat.mod_eq_of_lt hlt

end Sys2Proof

namespace Sys2Proof.Machine

/-! ## HANDLE_REQUEST on a header (R113, R119) -/

theorem exec_handleRequest_of_header {hdr : List Byte} {h : RequestHeader}
    (hh : headerOfBytes hdr = some h) (pd : List Byte) (pdLen : Nat) (s : State) :
    exec (.handleRequest hdr pd pdLen) s = transact h pd pdLen dispatchByKey s := by
  simp only [exec, execHandleRequest, hh]

/-- A row's own transaction is HANDLE_REQUEST on the header that holds its class and PID. -/
theorem transact_kind_eq_handleRequest {cc : Byte} {pid : Word16} {d : Handler}
    (hcc : supportedCc cc = true) (hd : handlerOfKey (dispatchKey cc pid) = some d)
    (r : RequestOperands) (s : State) :
    transact (operandsHeader r cc pid) r.pd r.pdLen d s =
      exec (.handleRequest (headerBytes (operandsHeader r cc pid)) r.pd r.pdLen) s := by
  rw [exec_handleRequest_of_header (headerOfBytes_headerBytes _)]
  exact transact_row (h := operandsHeader r cc pid) hcc hd r.pd r.pdLen s

/-! ## The address filter (R93) -/

theorem addressClass_eq (dest own : Uid) :
    addressClass dest own =
      if dest = own then .unicast
      else if dest = uidAll then .allDevices
      else if dest = vendorcast (manufacturerId own) then .vendorcastOwn
      else .other := by
  simp only [addressClass, parts_iff_vendorcast]

/-! ## The DUB response (R63, R132) -/

/-- R132: the two bytes of a pair, ANDed, are the encoded byte. -/
theorem and_of_dubPair (b : Byte) : (b ||| 0xAA) &&& (b ||| 0x55) = b := by
  calc (b ||| 0xAA) &&& (b ||| 0x55) = b ||| (0xAA &&& 0x55) := by
        ext i hi
        simp only [BitVec.getElem_and, BitVec.getElem_or, Bool.or_and_distrib_left]
    _ = b := by simp

theorem buildDub_eq (own : Uid) :
    buildDub own = [0xFE, 0xFE, 0xFE, 0xFE, 0xFE, 0xFE, 0xFE, 0xAA] ++
      (be48 own ++ be16 (checksum16 (slice (buildDub own) 8 12))).flatMap dubPair := by
  rw [List.flatMap_append]
  rfl

/-- Byte `k` is encoded in the pair of slots `2 * k` and `2 * k + 1`. -/
theorem slot_flatMap_dubPair {bs : List Byte} {k : Nat} (h : k < bs.length) :
    slot (bs.flatMap dubPair) (2 * k) = slot bs k ||| 0xAA ∧
      slot (bs.flatMap dubPair) (2 * k + 1) = slot bs k ||| 0x55 := by
  induction bs generalizing k with
  | nil => cases h
  | cons b bs ih =>
    cases k with
    | zero => exact ⟨rfl, rfl⟩
    | succ k => exact ih (Nat.lt_of_succ_lt_succ h)

theorem slot_append_right {a b : List Byte} {n i : Nat} (h : a.length = n) (hi : n ≤ i) :
    slot (a ++ b) i = slot b (i - n) := by
  rw [slot, slot, List.getD_append_right _ _ _ _ (h ▸ hi), h]

/-! ## Requests that stage DECODE drops (R78, R99) -/

/-- R60: the four slots that the decoder checks. -/
theorem headerOfBytes_of_length {hdr : List Byte} (hl : hdr.length = 24) :
    ∃ h, headerOfBytes hdr = some h ∧ h.startCode = slot hdr 0 ∧ h.subStartCode = slot hdr 1 ∧
      h.msgLen = slot hdr 2 ∧ h.pdl = slot hdr 23 :=
  ⟨_, if_pos hl, rfl, rfl, rfl, rfl⟩

/-! ## Requests that reach stage DISPATCH (R113) -/

/-- A HANDLE_REQUEST that passes admission, decode, gate and sub-device check. -/
structure ReachesDispatch (hdr pd : List Byte) (pdLen : Nat) (h : RequestHeader) (s : State) :
    Prop where
  ready : Ready s
  header : headerOfBytes hdr = some h
  operands : OperandsOk pd pdLen
  decodes : PassesDecode h pdLen
  addressed : PassesGate h.dest s
  rootDevice : h.subDevice = 0

/-- The Sends with which a transaction answers a handler's result (R95, R120, R122, R123). -/
def resultSends (s : State) (h : RequestHeader) : HandlerResult → List Event
  | .ack data => standardSends s h 0x00 data
  | .nack reason => standardSends s h 0x02 (be16 reason)
  | .dub bytes => if s.sendPresent = true then [.send false [bytes] 1] else []
  | .silent => []

/-- The standard reply to a request, or none where the reply is suppressed (R95, R120). -/
def standardReply (h : RequestHeader) (own : Uid) (rtype : Byte) (data : List Byte) : Reply :=
  if addressClass h.dest own = .unicast then
    .standard (replyFrame h.src h.dest h.tn rtype h.subDevice (h.cc + 1) h.pid data)
  else .noReply

theorem sendsOf_standardReply (s : State) (h : RequestHeader) (rtype : Byte) (data : List Byte) :
    sendsOf s.sendPresent (standardReply h s.cfg.ownUid rtype data) =
      standardSends s h rtype data := by
  unfold standardReply standardSends
  by_cases hu : addressClass h.dest s.cfg.ownUid = .unicast
  · simp only [hu, if_true, true_and, sendsOf]
  · simp only [hu, if_false, false_and, sendsOf]

theorem replyPolicy_ack (h : RequestHeader) (pd : List Byte) (own : Uid) {data : List Byte}
    (hfits : data.length ≤ 231) :
    replyPolicy (decodeView h pd own) (.ack data) = .ok (standardReply h own rtAck data) := by
  rw [replyPolicy, buildAck, buildStandard_eq_replyFrame _ _ hfits, standardReply,
    apply_ite Except.ok]
  rfl

theorem replyPolicy_nack (h : RequestHeader) (pd : List Byte) (own : Uid) (reason : Word16) :
    replyPolicy (decodeView h pd own) (.nack reason) =
      .ok (standardReply h own rtNackReason (be16 reason)) := by
  rw [replyPolicy, buildNack, buildStandard_eq_replyFrame _ _ (by simp), standardReply,
    apply_ite Except.ok]
  rfl

/-- R120: what the reply policy answers on a result that fits a frame, as the Sends it leads to. -/
theorem replyPolicy_resultSends (h : RequestHeader) (pd : List Byte) (s : State)
    {result : HandlerResult} (hfits : ∀ data, result = .ack data → data.length ≤ 231) :
    ∃ reply, replyPolicy (decodeView h pd s.cfg.ownUid) result = .ok reply ∧
      sendsOf s.sendPresent reply = resultSends s h result := by
  cases result with
  | ack data => exact ⟨_, replyPolicy_ack h pd _ (hfits data rfl), sendsOf_standardReply s h _ _⟩
  | nack reason => exact ⟨_, replyPolicy_nack h pd _ reason, sendsOf_standardReply s h _ _⟩
  | dub bytes => exact ⟨_, rfl, rfl⟩
  | silent => exact ⟨_, rfl, rfl⟩

section
variable {hdr pd : List Byte} {pdLen : Nat} {h : RequestHeader} {s s' : State}
  {result : HandlerResult} {d : Handler}

/-- R99: the parameter data has the length that the PDL slot says. -/
theorem ReachesDispatch.length_pd (hr : ReachesDispatch hdr pd pdLen h s) :
    pd.length = h.pdl.toNat := by
  obtain ⟨hlen, -⟩ := hr.operands
  obtain ⟨-, -, hpdl, -⟩ := hr.decodes
  rw [hlen, hpdl]

/-- Stages DISPATCH to TRANSPORT in one equation: the lookup's effect, then its result's Sends. -/
theorem ReachesDispatch.completes (hr : ReachesDispatch hdr pd pdLen h s)
    (hd : dispatchByKey (decodeView h pd s.cfg.ownUid) s = .ok (result, s'))
    (hfits : ∀ data, result = .ack data → data.length ≤ 231) :
    exec (.handleRequest hdr pd pdLen) s = .next (s'.completed (resultSends s h result)) := by
  obtain ⟨-, -, hsend⟩ := (dispatchByKey_effect hd).keeps_config
  obtain ⟨reply, hreply, hsends⟩ := replyPolicy_resultSends h pd s hfits
  have ho : outcomeOf dispatchByKey (decodeView h pd s.cfg.ownUid) s = .ok (result, s') := by
    rw [outcomeOf, decodeView_subDevice, if_pos hr.rootDevice, hd]
  rw [exec_handleRequest_of_header hr.header, transact_passed dispatchByKey_txnBlind hr.ready
    (paramDataOk_iff.2 hr.operands) (decodeCheck_iff.2 hr.decodes) hr.addressed, ho]
  simp only [hreply, afterReply_eq_completed, hsend, hsends]

theorem supportedCc_iff {cc : Byte} :
    supportedCc cc = true ↔ cc = 0x10 ∨ cc = 0x20 ∨ cc = 0x30 := by
  simp only [supportedCc, Bool.or_eq_true, beq_iff_eq, or_assoc]

/-- R75, R76: every row's key has a supported command class. -/
theorem supportedCc_of_requestKeys :
    ∀ key ∈ requestKeys, supportedCc (key.extractLsb' 16 8) = true :=
  List.all_eq_true.1 rfl

/-- R119: on a row's key the command-class test passes and the row's handler runs. -/
theorem dispatchByKey_of_row {v : RequestView}
    (hd : handlerOfKey (dispatchKey v.cc v.pid) = some d) (s : State) :
    dispatchByKey v s = d v s := by
  have hmem : dispatchKey v.cc v.pid ∈ requestKeys := by
    rw [← keys_of_handlerTable]
    exact List.mem_map_of_mem (handlerOfKey_some hd)
  have hcc : supportedCc v.cc = true := by
    rw [← extractLsb'_dispatchKey_class v.cc v.pid]
    exact supportedCc_of_requestKeys _ hmem
  rw [dispatchByKey, if_pos hcc, hd]

/-- R77, R119: a request that reaches stage DISPATCH on a row's key does what the row's handler
says. -/
theorem ReachesDispatch.completes_row (hr : ReachesDispatch hdr pd pdLen h s)
    (hrow : handlerOfKey (dispatchKey h.cc h.pid) = some d)
    (hd : d (decodeView h pd s.cfg.ownUid) s = .ok (result, s'))
    (hfits : ∀ data, result = .ack data → data.length ≤ 231) :
    exec (.handleRequest hdr pd pdLen) s = .next (s'.completed (resultSends s h result)) :=
  hr.completes ((dispatchByKey_of_row (v := decodeView h pd s.cfg.ownUid) hrow s).trans hd) hfits

/-- A row that answers NR_FORMAT_ERROR has no effect. -/
theorem ReachesDispatch.format_error (hr : ReachesDispatch hdr pd pdLen h s)
    (hrow : handlerOfKey (dispatchKey h.cc h.pid) = some d)
    (hd : d (decodeView h pd s.cfg.ownUid) s = .ok (.nack nrFormatError, s)) :
    exec (.handleRequest hdr pd pdLen) s =
      .next (s.completed (standardSends s h 0x02 [0x00, 0x01])) :=
  hr.completes_row hrow hd nofun

/-! ## The twelve rows -/

/-- R137: a GET row. -/
theorem ReachesDispatch.get {data : State → List Byte} (hr : ReachesDispatch hdr pd pdLen h s)
    (hrow : handlerOfKey (dispatchKey h.cc h.pid) = some (handleGet data))
    (hfits : (data s).length ≤ 231) :
    exec (.handleRequest hdr pd pdLen) s =
      .next (if h.pdl = 0 then s.completed ([] ++ standardSends s h 0x00 (data s))
        else s.completed (standardSends s h 0x02 [0x00, 0x01])) := by
  split
  · next hp =>
    exact hr.completes_row hrow (if_pos hp) fun _ hack => (by cases hack; exact hfits)
  · next hp => exact hr.format_error hrow (if_neg hp)

theorem completed_setMuted (s : State) (v : Bool) (es : List Event) :
    (s.setMuted v).completed es =
      { s.completed ([if v then .portSet s.cfg.muteCh s.cfg.muteBit
          else .portClear s.cfg.muteCh s.cfg.muteBit] ++ es) with muted := v } := by
  simp only [State.completed, State.setMuted_events, List.append_assoc]
  rfl

theorem completed_setIdentify (s : State) (v : Bool) (es : List Event) :
    (s.setIdentify v).completed es =
      { s.completed ([if v then .portSet s.cfg.identifyCh s.cfg.identifyBit
          else .portClear s.cfg.identifyCh s.cfg.identifyBit] ++ es) with identifyOn := v } := by
  simp only [State.completed, State.setIdentify_events, List.append_assoc]
  rfl

/-- R127, R128: the two rows that write `muted`, to `v`. -/
theorem ReachesDispatch.setMuted {v : Bool} (hr : ReachesDispatch hdr pd pdLen h s)
    (hrow : handlerOfKey (dispatchKey h.cc h.pid) = some d)
    (hd : d (decodeView h pd s.cfg.ownUid) s =
      if h.pdl = 0 then .ok (.ack (be16 muteControlField), s.setMuted v)
      else .ok (.nack nrFormatError, s)) :
    exec (.handleRequest hdr pd pdLen) s =
      .next (if h.pdl = 0 then
        { s.completed ([if v then .portSet s.cfg.muteCh s.cfg.muteBit
            else .portClear s.cfg.muteCh s.cfg.muteBit] ++
              standardSends s h 0x00 [0x00, 0x00]) with muted := v }
      else s.completed (standardSends s h 0x02 [0x00, 0x01])) := by
  split
  · next hp =>
    have hack := hr.completes_row hrow (hd.trans (if_pos hp)) fun _ heq => by cases heq; simp
    exact completed_setMuted s v _ ▸ hack
  · next hp => exact hr.format_error hrow (hd.trans (if_neg hp))

/-- R131: a bound of six bytes compares as the number it is. -/
theorem inRange_fromBe {u : Uid} {lower upper : List Byte} (hl : lower.length = 6)
    (hu : upper.length = 6) :
    inRange u (BitVec.ofNat 48 (fromBe lower)) (BitVec.ofNat 48 (fromBe upper)) = true ↔
      fromBe lower ≤ u.toNat ∧ u.toNat ≤ fromBe upper := by
  rw [inRange, toNat_uid_of_fromBe hl, toNat_uid_of_fromBe hu, Bool.and_eq_true,
    decide_eq_true_iff, decide_eq_true_iff]

/-- R130, R131: the handler of DUB as one test. -/
theorem handleDiscUniqueBranch_eq {v : RequestView} (hlen : v.payload.length = v.pdl.toNat)
    (s : State) :
    handleDiscUniqueBranch v s =
      .ok (if s.muted = false ∧ v.pdl = 12 ∧ fromBe (v.payload.take 6) ≤ s.cfg.ownUid.toNat ∧
          s.cfg.ownUid.toNat ≤ fromBe (v.payload.drop 6) then .dub (buildDub s.cfg.ownUid)
        else .silent, s) := by
  unfold handleDiscUniqueBranch
  by_cases hm : s.muted = true
  · rw [if_pos hm, if_neg (by simp [hm])]
  by_cases hp : v.pdl = 12
  · have h12 : v.payload.length = 12 := by rw [hlen, hp]; rfl
    have hlower : slice v.payload 0 6 = v.payload.take 6 := rfl
    have hupper : slice v.payload 6 6 = v.payload.drop 6 :=
      List.take_of_length_le (by rw [List.length_drop]; omega)
    have hrange := inRange_fromBe (u := s.cfg.ownUid) (lower := v.payload.take 6)
      (upper := v.payload.drop 6) (by rw [List.length_take]; omega)
      (by rw [List.length_drop]; omega)
    rw [if_neg hm, if_pos hp, memRead_of_le (by omega), memRead_of_le (by omega), hlower, hupper]
    dsimp only
    by_cases hin : fromBe (v.payload.take 6) ≤ s.cfg.ownUid.toNat ∧
        s.cfg.ownUid.toNat ≤ fromBe (v.payload.drop 6)
    · rw [if_pos (hrange.2 hin), if_pos ⟨Bool.eq_false_iff.2 hm, hp, hin⟩]
    · rw [if_neg (mt hrange.1 hin), if_neg fun ⟨_, _, h⟩ => hin h]
  · rw [if_neg hm, if_neg hp, if_neg fun ⟨_, h, _⟩ => hp h]

/-- R130, R133. -/
theorem ReachesDispatch.dub (hr : ReachesDispatch hdr pd pdLen h s)
    (hkey : dispatchKey h.cc h.pid = 0x100001) :
    exec (.handleRequest hdr pd pdLen) s = .next (s.completed
      (if s.muted = false ∧ h.pdl = 12 ∧ fromBe (pd.take 6) ≤ s.cfg.ownUid.toNat ∧
          s.cfg.ownUid.toNat ≤ fromBe (pd.drop 6) then
        dubSends s
      else [])) := by
  have hrow : handlerOfKey (dispatchKey h.cc h.pid) = some handleDiscUniqueBranch := by
    rw [hkey]; rfl
  have hd := handleDiscUniqueBranch_eq (v := decodeView h pd s.cfg.ownUid) hr.length_pd s
  rw [decodeView_pdl, decodeView_payload] at hd
  split at hd
  · next hin => rw [if_pos hin]; exact hr.completes_row hrow hd nofun
  · next hout => rw [if_neg hout]; exact hr.completes_row hrow hd nofun

/-- R146. -/
theorem ReachesDispatch.setLabel (hr : ReachesDispatch hdr pd pdLen h s)
    (hkey : dispatchKey h.cc h.pid = 0x300082) :
    exec (.handleRequest hdr pd pdLen) s =
      .next (if h.pdl.toNat ≤ 32 then
        { s.completed ([] ++ standardSends s h 0x00 []) with deviceLabel := pd }
      else s.completed (standardSends s h 0x02 [0x00, 0x01])) := by
  have hrow : handlerOfKey (dispatchKey h.cc h.pid) = some handleSetDeviceLabel := by
    rw [hkey]; rfl
  have hlen := hr.length_pd
  split
  · next hp =>
    have hread : memRead pd 0 h.pdl.toNat = .ok pd := by
      rw [memRead_of_le (by omega), ← hlen, slice, List.drop_zero, List.take_length]
    have hd : handleSetDeviceLabel (decodeView h pd s.cfg.ownUid) s =
        .ok (.ack [], s.setDeviceLabel pd) := by
      rw [handleSetDeviceLabel, decodeView_pdl, decodeView_payload, if_pos hp, hread]
    exact hr.completes_row hrow hd fun _ hack => (by cases hack; simp)
  · next hp => exact hr.format_error hrow (if_neg hp)

/-- R148, R149. -/
theorem ReachesDispatch.setIdentify (hr : ReachesDispatch hdr pd pdLen h s)
    (hkey : dispatchKey h.cc h.pid = 0x301000) :
    exec (.handleRequest hdr pd pdLen) s =
      .next (if h.pdl = 1 then
        if slot pd 0 = 0x00 then
          { s.completed ([.portClear s.cfg.identifyCh s.cfg.identifyBit] ++
              standardSends s h 0x00 []) with identifyOn := false }
        else
          { s.completed ([.portSet s.cfg.identifyCh s.cfg.identifyBit] ++
              standardSends s h 0x00 []) with identifyOn := true }
      else s.completed (standardSends s h 0x02 [0x00, 0x01])) := by
  have hrow : handlerOfKey (dispatchKey h.cc h.pid) = some handleSetIdentifyDevice := by
    rw [hkey]; rfl
  have hlen := hr.length_pd
  split
  · next hp =>
    have h1 : pd.length = 1 := by rw [hlen, hp]; rfl
    have hread : memRead pd 0 1 = .ok pd := by
      rw [memRead_of_le (by omega), slice, List.drop_zero, ← h1, List.take_length]
    have hd : handleSetIdentifyDevice (decodeView h pd s.cfg.ownUid) s =
        .ok (.ack [], s.setIdentify (slot pd 0 != 0x00)) := by
      rw [handleSetIdentifyDevice, decodeView_pdl, decodeView_payload, if_pos hp, hread]
    rw [hr.completes_row hrow hd fun _ hack => by cases hack; simp, completed_setIdentify]
    by_cases hz : slot pd 0 = 0x00
    · simp only [hz, if_true]; rfl
    · simp only [hz, if_false, bne_iff_ne.2 hz]; rfl
  · next hp => exact hr.format_error hrow (if_neg hp)

end

/-! ## The statements -/

/-- Settles O8: level 1 reads the select that the encoder writes, and level 2 the row's own key; a
plain HANDLE_REQUEST is well formed on no row's key. -/
theorem decodeEncodeAgree : Obligations.DecodeEncodeAgree := by
  intro i hwf
  cases i with
  | init _ _ => rfl
  | verifyChecksum _ _ => rfl
  | requiresAction _ => rfl
  | isMuted => rfl
  | handleRequest hdr pd pdLen =>
    rw [wellFormed, Bool.and_eq_true, Bool.not_eq_true'] at hwf
    obtain ⟨-, hrow⟩ := hwf
    exact congrArg Except.ok (decodeRequest_of_not_selectsRow hrow pd pdLen)
  | _ r => exact decode_kindBundle rfl r

/-- Settles O9: one case for each of the five selects; the operands of HANDLE_REQUEST come back
whichever row the header selects. -/
theorem encodeDecodeAgree : Obligations.EncodeDecodeAgree := by
  intro b i hdec
  obtain ⟨hop, rfl⟩ | ⟨hop, rfl⟩ | ⟨hop, rfl⟩ | ⟨hop, rfl⟩ | ⟨hop, rfl⟩ := decode_ok hdec
  case inr.inr.inr.inl =>
    rw [encode_decodeRequest]
    simp [hop, requestBundle, zeroBundle]
  all_goals simp [hop, encode, zeroBundle]

/-- Settles O11: on each row's class and PID the table's lookup finds the row's handler. -/
theorem requestKindsAreHandleRequests : Obligations.RequestKindsAreHandleRequests := by
  intro r s
  refine ⟨?_, ?_, ?_, ?_, ?_, ?_, ?_, ?_, ?_, ?_, ?_, ?_⟩ <;>
    exact transact_kind_eq_handleRequest rfl rfl r s

/-- Settles O21: the own UID has a device ID that neither broadcast form has, so of R93's tests only
those for the two broadcast forms can hold at once, and the statement orders them. -/
theorem addressClassesAreTheFourForms : Obligations.AddressClassesAreTheFourForms := by
  intro dest own hown
  have hall : own ≠ uidAll := by
    rintro rfl
    exact hown (by decide)
  have hvc : own ≠ vendorcast (manufacturerId own) :=
    fun h => hown (h ▸ deviceId_vendorcast _)
  rw [addressClass_eq]
  generalize vendorcast (manufacturerId own) = vc at hvc ⊢
  generalize uidAll = all at hall ⊢
  split
  · next hu => subst hu; simp [hall, hvc]
  · next hu =>
    split
    · next ha => subst ha; simp [hu]
    · next ha =>
      split
      · next hv => subst hv; simp [hu, ha]
      · next hv => simp [hu, ha, hv]

/-- Settles O27: eight fixed bytes, then the pairs of the UID and of its checksum. -/
theorem dubResponseLayout : Obligations.DubResponseLayout := by
  intro own
  refine ⟨rfl, rfl, fun k hk => ?_⟩
  obtain ⟨heven, hodd⟩ := slot_flatMap_dubPair
    (bs := be48 own ++ be16 (checksum16 (slice (buildDub own) 8 12))) hk
  have hpairs := buildDub_eq own
  generalize checksum16 (slice (buildDub own) 8 12) = c at *
  have hfirst : slot (buildDub own) (8 + 2 * k) = slot (be48 own ++ be16 c) k ||| 0xAA := by
    rw [hpairs, slot_append_right (n := 8) rfl (by omega), Nat.add_sub_cancel_left, heven]
  have hsecond : slot (buildDub own) (9 + 2 * k) = slot (be48 own ++ be16 c) k ||| 0x55 := by
    rw [hpairs, slot_append_right (n := 8) rfl (by omega),
      show 9 + 2 * k - 8 = 2 * k + 1 by omega, hodd]
  exact ⟨hfirst, hsecond, by rw [hfirst, hsecond, and_of_dubPair]⟩

/-- Settles O28: each of the four conditions breaks the decoder's check. -/
theorem malformedFramesAreDropped : Obligations.MalformedFramesAreDropped := by
  intro hdr pd pdLen s hr hl hops hbad
  obtain ⟨h, hh, hstart, hsub, hlen, hpdl⟩ := headerOfBytes_of_length hl
  have hcheck : decodeCheck h pdLen = false := by
    rw [Bool.eq_false_iff, Ne, decodeCheck_iff]
    rintro ⟨h0, h1, h23, h2⟩
    rw [hstart] at h0
    rw [hsub] at h1
    rw [hlen, hpdl] at h2
    rw [hpdl] at h23
    obtain hne | hne | hne | hne := hbad <;> exact hne ‹_›
  rw [exec_handleRequest_of_header hh]
  exact transact_dropped hr (paramDataOk_iff.2 hops) (.inl hcheck)

/-- Settles O31: the command-class test fails before any lookup. -/
theorem unsupportedCommandClassIsNacked : Obligations.UnsupportedCommandClassIsNacked := by
  intro hdr pd pdLen h s hr hh hops hdec hgate hsub h10 h20 h30
  have hcc : supportedCc h.cc ≠ true := by
    rw [Ne, supportedCc_iff]
    rintro (hcc | hcc | hcc)
    · exact h10 hcc
    · exact h20 hcc
    · exact h30 hcc
  have hreach : ReachesDispatch hdr pd pdLen h s := ⟨hr, hh, hops, hdec, hgate, hsub⟩
  exact hreach.completes (result := .nack nrUnsupportedCommandClass) (if_neg hcc) nofun

/-- Settles O34: the lemma of each row, in the order of R76; the GET rows differ in their data and in
why it fits a frame. -/
theorem handleRequestRunsTheSelectedRow : Obligations.HandleRequestRunsTheSelectedRow := by
  intro hdr pd pdLen h s hr hh hops hdec hgate hsub
  have hreach : ReachesDispatch hdr pd pdLen h s := ⟨hr, hh, hops, hdec, hgate, hsub⟩
  refine ⟨hreach.dub, fun hkey => ?mute, fun hkey => ?unMute, fun hkey hcfg => ?pids,
    fun hkey => ?info, fun hkey hcfg => ?model, fun hkey hcfg => ?manufacturer,
    fun hkey hlabel => ?label, hreach.setLabel, fun hkey hcfg => ?software,
    fun hkey => ?identify, hreach.setIdentify⟩
  case mute => exact hreach.setMuted (v := true) (d := handleDiscMute) (hkey ▸ rfl) rfl
  case unMute => exact hreach.setMuted (v := false) (d := handleDiscUnMute) (hkey ▸ rfl) rfl
  case info =>
    exact hreach.get (data := fun s => deviceInfoPd s.cfg.deviceInfo) (hkey ▸ rfl)
      (by simp [deviceInfoPd])
  case label => exact hreach.get (data := State.deviceLabel) (hkey ▸ rfl) (by omega)
  case identify =>
    exact hreach.get (data := fun s => identifyPd s.identifyOn) (hkey ▸ rfl) (by simp [identifyPd])
  all_goals obtain ⟨hpids, hmodel, hmanufacturer, hsoftware, -⟩ := cfgValid_lengths hcfg
  case pids =>
    exact hreach.get (data := fun s => supportedPd s.cfg.supportedPids) (hkey ▸ rfl)
      (by rw [length_supportedPd]; omega)
  case model => exact hreach.get (data := fun s => s.cfg.modelDescription) (hkey ▸ rfl) (by omega)
  case manufacturer =>
    exact hreach.get (data := fun s => s.cfg.manufacturerLabel) (hkey ▸ rfl) (by omega)
  case software =>
    exact hreach.get (data := fun s => s.cfg.softwareVersionLabel) (hkey ▸ rfl) (by omega)

/-- Settles O2: the decoder refuses the select by name, and the step with it. -/
theorem stepRefusesReservedSelects : Obligations.StepRefusesReservedSelects := by
  intro s b rest hin hop
  simp only [step, fetch, hin, decode_reserved hop]

/-- Settles O5: the slots of each bundle, read by evaluation. -/
theorem sampleWordsDecode : Obligations.SampleWordsDecode :=
  ⟨rfl, rfl, rfl, rfl, rfl, rfl⟩

/-- Settles O6: the fields of the key are the class and the PID. -/
theorem dispatchKeyIsClassAndPid : Obligations.DispatchKeyIsClassAndPid :=
  fun cc pid => ⟨toNat_dispatchKey cc pid, fun _ _ h => dispatchKey_inj h⟩

end Sys2Proof.Machine

/-! PROOFS, the checksum family. The sum of a window (R87, R90), and the validator in terms of the
sum and the two trailer slots (R88), from which VERIFY_CHECKSUM's result and the detection of a
changed trailer follow. -/

namespace Sys2Proof

/-! ## The sum of a window (R87, R90) -/

theorem sum_toNat_le (bs : List Byte) : (bs.map BitVec.toNat).sum ≤ bs.length * 255 := by
  have hbyte : ∀ k ∈ bs.map BitVec.toNat, k ≤ 255 := by
    intro k hk
    obtain ⟨b, -, rfl⟩ := List.mem_map.1 hk
    exact Nat.le_of_lt_succ b.isLt
  simpa using List.sum_le_card_nsmul _ 255 hbyte

@[simp] theorem toNat_checksum16 (bs : List Byte) :
    (checksum16 bs).toNat = (bs.map BitVec.toNat).sum % 65536 := BitVec.toNat_ofNat _ _

/-- R90: `257 * 255` is `65535`, so up to 257 bytes the reduction changes nothing. -/
theorem toNat_checksum16_of_length_le {bs : List Byte} (h : bs.length ≤ 257) :
    (checksum16 bs).toNat = (bs.map BitVec.toNat).sum := by
  have hsum := sum_toNat_le bs
  rw [toNat_checksum16, Nat.mod_eq_of_lt (by omega)]

/-! ## Slots of a buffer -/

/-- Two slots of a buffer, read as a slice (R11). -/
theorem slice_two {buf : List Byte} {i : Nat} (h : i + 2 ≤ buf.length) :
    slice buf i 2 = [slot buf i, slot buf (i + 1)] := by
  rw [slice, slot, slot, List.drop_eq_getElem_cons (by omega),
    List.drop_eq_getElem_cons (by omega), List.getD_eq_getElem _ _ (by omega),
    List.getD_eq_getElem _ _ (by omega)]
  rfl

theorem slot_set_self {buf : List Byte} {i : Nat} (h : i < buf.length) (b : Byte) :
    slot (buf.set i b) i = b := by
  simp [slot, List.getD_eq_getElem?_getD, h]

theorem slot_set_ne {i j : Nat} (h : i ≠ j) (buf : List Byte) (b : Byte) :
    slot (buf.set i b) j = slot buf j := by
  simp [slot, List.getD_eq_getElem?_getD, h]

end Sys2Proof

namespace Sys2Proof.Machine

/-! ## The DUB window (R91, R132) -/

theorem length_dubPair (b : Byte) : (dubPair b).length = 2 := rfl

theorem length_flatMap_dubPair (bs : List Byte) :
    (bs.flatMap dubPair).length = bs.length * 2 := by
  simp [List.length_flatMap, length_dubPair]

/-! ## The validator (R88) -/

/-- R88: the big-endian value of the two slots that hold the checksum of a window of length `n`. -/
def trailerValue (buf : List Byte) (n : Nat) : Nat :=
  (slot buf (n - 2)).toNat * 256 + (slot buf (n - 1)).toNat

/-- The validator's comparison of words is the comparison of the two slots' value. -/
theorem checksum16_eq_trailer_iff {buf : List Byte} {n : Nat} (h2 : 2 ≤ n) (hn : n ≤ buf.length) :
    checksum16 (slice buf 0 (n - 2)) = BitVec.ofNat 16 (fromBe (slice buf (n - 2) 2)) ↔
      ((buf.take (n - 2)).map BitVec.toNat).sum % 65536 = trailerValue buf n := by
  have hbe : fromBe (slice buf (n - 2) 2) = trailerValue buf n := by
    rw [slice_two (by omega), show n - 2 + 1 = n - 1 by omega]
    simp [fromBe, trailerValue]
  have hlt : trailerValue buf n < 65536 := by
    have hhigh := (slot buf (n - 2)).isLt
    have hlow := (slot buf (n - 1)).isLt
    rw [trailerValue]
    omega
  rw [← BitVec.toNat_inj, toNat_checksum16, hbe, BitVec.toNat_ofNat, Nat.mod_eq_of_lt hlt]
  rfl

/-- R88: all that the validator answers on a window inside the buffer. -/
theorem verifyChecksum_eq_decide {buf : List Byte} {n : Nat} (hn : n ≤ buf.length) :
    verifyChecksum buf n = .ok (decide (26 ≤ n ∧
      ((buf.take (n - 2)).map BitVec.toNat).sum % 65536 = trailerValue buf n)) := by
  by_cases h26 : 26 ≤ n
  · rw [verifyChecksum_eq h26 hn, Bool.beq_eq_decide_eq]
    simp only [checksum16_eq_trailer_iff (by omega) hn, h26, true_and]
  · rw [verifyChecksum, if_pos (show n < minFrame from Nat.lt_of_not_le h26)]
    simp only [h26, false_and, decide_false]

/-- One of the two trailer slots changed: the value changes. -/
theorem trailerValue_set_ne {buf : List Byte} {n i : Nat} {b : Byte} (h2 : 2 ≤ n)
    (hn : n ≤ buf.length) (hi : i = n - 2 ∨ i = n - 1) (hb : b ≠ slot buf i) :
    trailerValue (buf.set i b) n ≠ trailerValue buf n := by
  have hne : b.toNat ≠ (slot buf i).toNat := BitVec.toNat_ne.1 hb
  obtain rfl | rfl := hi
  all_goals
    rw [trailerValue, trailerValue, slot_set_self (by omega), slot_set_ne (by omega)]
    omega

/-! ## VERIFY_CHECKSUM (R58, R155) -/

theorem checksumOperandsOk_iff {buf : List Byte} {length : Nat} :
    checksumOperandsOk buf length = true ↔ length ≤ buf.length ∧ length ≤ 257 := by
  simp [checksumOperandsOk, maxFrame, hdrLen, maxPdl, csLen]

theorem execVerifyChecksum_refused {buf : List Byte} {length : Nat} {s : State} (hr : Ready s)
    (hbad : ¬ (length ≤ buf.length ∧ length ≤ 257)) :
    execVerifyChecksum buf length s = .refused .checksumOperands := by
  rw [execVerifyChecksum, whenReady_of_ready hr, if_neg (mt checksumOperandsOk_iff.1 hbad)]

/-! ## The statements -/

/-- Settles O22: the validator answers on every admitted operand, and the operation returns its
answer. -/
theorem verifyChecksumResult : Obligations.VerifyChecksumResult :=
  fun _ _ _ hr =>
    ⟨fun hn h257 => execVerifyChecksum_next.2
        ⟨hr, checksumOperandsOk_iff.2 ⟨hn, h257⟩, _, verifyChecksum_eq_decide hn, rfl⟩,
      fun hbad => execVerifyChecksum_refused hr (by omega)⟩

/-- Settles O23: the window summed is the same, the trailer's value is not. -/
theorem trailerByteChangeIsDetected : Obligations.TrailerByteChangeIsDetected := by
  intro buf n i b hn hok hi hb
  rw [verifyChecksum_eq_decide hn, Except.ok.injEq, decide_eq_true_iff] at hok
  obtain ⟨h26, hsum⟩ := hok
  have hwindow : (buf.set i b).take (n - 2) = buf.take (n - 2) :=
    List.take_set_of_le (by omega)
  have hvalue := trailerValue_set_ne (by omega) hn hi hb
  rw [verifyChecksum_eq_decide (by rwa [List.length_set]), hwindow, hsum]
  simp [hvalue.symm]

/-- Settles O24: both bounds are the length times 255; the DUB window has twelve bytes. -/
theorem checksumIsNeverReduced : Obligations.ChecksumIsNeverReduced := by
  refine ⟨fun bs hbs => ?_, fun own => ?_⟩
  · have hsum := sum_toNat_le bs
    exact ⟨toNat_checksum16_of_length_le (by omega), by omega⟩
  · have hlen : ((be48 own).flatMap dubPair).length = 12 := length_flatMap_dubPair _
    have hsum := sum_toNat_le ((be48 own).flatMap dubPair)
    exact ⟨toNat_checksum16_of_length_le (by omega), by omega⟩

/-- Settles O26: header, data and checksum give the length, and what the block's checks accept is
`standardFrameOk`. -/
theorem builtFramesVerify : Obligations.BuiltFramesVerify := by
  intro v rtype data frame h
  obtain ⟨hdata, hframe⟩ := buildStandard_ok.1 h
  have hlen : frame.length = 26 + data.length := by
    rw [hframe, List.length_append, length_standardBody, length_be16]
    omega
  obtain ⟨hsum, header, hheader, hdec⟩ := standardFrameOk_of_buildStandard h
  rw [hlen, Nat.add_sub_cancel_left] at hdec
  exact ⟨hlen, by omega, hsum, header, hheader, hdec⟩

end Sys2Proof.Machine

/-! PROOFS, the addressing family. What a request's effects depend on: a handler reads neither the
destination nor the port ID nor the message count (R95, R96, R102, R121); and the result of
REQUIRES_ACTION (R94). -/

namespace Sys2Proof.Machine

/-! ## What a handler reads of the request view (R126) -/

/-- Of the view the handler reads the parameter data and its length only. -/
def ReadsDataOnly (d : Handler) : Prop :=
  ∀ (v w : RequestView) (s : State), v.pdl = w.pdl → v.payload = w.payload → d v s = d w s

/-- Two views that agree in all that stages SUBDEVICE_CHECK and DISPATCH read. -/
structure SameRequest (v w : RequestView) : Prop where
  subDevice : v.subDevice = w.subDevice
  cc : v.cc = w.cc
  pid : v.pid = w.pid
  pdl : v.pdl = w.pdl
  payload : v.payload = w.payload

theorem handleGet_readsDataOnly (data : State → List Byte) : ReadsDataOnly (handleGet data) := by
  intro v w s hpdl _
  rw [handleGet, handleGet, hpdl]

theorem handleDiscMute_readsDataOnly : ReadsDataOnly handleDiscMute := by
  intro v w s hpdl _
  rw [handleDiscMute, handleDiscMute, hpdl]

theorem handleDiscUnMute_readsDataOnly : ReadsDataOnly handleDiscUnMute := by
  intro v w s hpdl _
  rw [handleDiscUnMute, handleDiscUnMute, hpdl]

theorem handleDiscUniqueBranch_readsDataOnly : ReadsDataOnly handleDiscUniqueBranch := by
  intro v w s hpdl hpayload
  rw [handleDiscUniqueBranch, handleDiscUniqueBranch, hpdl, hpayload]

theorem handleSetDeviceLabel_readsDataOnly : ReadsDataOnly handleSetDeviceLabel := by
  intro v w s hpdl hpayload
  rw [handleSetDeviceLabel, handleSetDeviceLabel, hpdl, hpayload]

theorem handleSetIdentifyDevice_readsDataOnly : ReadsDataOnly handleSetIdentifyDevice := by
  intro v w s hpdl hpayload
  rw [handleSetIdentifyDevice, handleSetIdentifyDevice, hpdl, hpayload]

/-- Every row of the dispatch table. -/
theorem handlerTable_readsDataOnly : ∀ p ∈ handlerTable, ReadsDataOnly p.2 := by
  simp only [handlerTable, List.forall_mem_cons]
  exact ⟨handleDiscUniqueBranch_readsDataOnly, handleDiscMute_readsDataOnly,
    handleDiscUnMute_readsDataOnly, handleGet_readsDataOnly _, handleGet_readsDataOnly _,
    handleGet_readsDataOnly _, handleGet_readsDataOnly _, handleGet_readsDataOnly _,
    handleSetDeviceLabel_readsDataOnly, handleGet_readsDataOnly _, handleGet_readsDataOnly _,
    handleSetIdentifyDevice_readsDataOnly, nofun⟩

theorem SameRequest.dispatchByKey_eq {v w : RequestView} (h : SameRequest v w) (s : State) :
    dispatchByKey v s = dispatchByKey w s := by
  unfold dispatchByKey
  rw [h.cc, h.pid]
  split
  · split
    · next d hd => exact handlerTable_readsDataOnly _ (handlerOfKey_some hd) v w s h.pdl h.payload
    · rfl
  · rfl

/-- The sub-device check and the lookup answer two views of one request alike. -/
theorem SameRequest.outcomeOf_eq {v w : RequestView} (h : SameRequest v w) (s : State) :
    outcomeOf dispatchByKey v s = outcomeOf dispatchByKey w s := by
  rw [outcomeOf, outcomeOf, h.subDevice, h.dispatchByKey_eq s]

/-! ## A transaction in one equation (R113) -/

/-- Behind a failed admission test nothing is evaluated. -/
theorem whenReady_of_not_ready {s : State} (hr : ¬ Ready s) (k k' : Run) :
    whenReady s k = whenReady s k' := by
  unfold whenReady whenIdle
  split
  · next hidle =>
    have hinit : ¬ s.initialized = true := fun hinit => hr ⟨hinit, hidle⟩
    rw [if_neg hinit, if_neg hinit]
  · rfl

/-- The whole of a transaction from the state it starts in: the header enters by its decode check, by
its address class and by the view. -/
theorem transact_eq {h : RequestHeader} {pd : List Byte} {pdLen : Nat} {d : Handler}
    (hb : TxnBlind d) (s : State) :
    transact h pd pdLen d s =
      whenReady s
        (if paramDataOk pd pdLen then
          if decodeCheck h pdLen = true ∧ addressClass h.dest s.cfg.ownUid ≠ .other then
            match outcomeOf d (decodeView h pd s.cfg.ownUid) s with
            | .error f => .fault f
            | .ok (result, s') =>
              match replyPolicy (decodeView h pd s.cfg.ownUid) result with
              | .error f => .fault f
              | .ok reply => .next (s'.afterReply reply)
          else .next s.finish
        else .refused .requestOperands) := by
  by_cases hr : Ready s
  case neg => exact whenReady_of_not_ready hr _ _
  rw [whenReady_of_ready hr]
  split
  · next hp =>
    split
    · next hpass =>
      obtain ⟨hd, hg⟩ := hpass
      exact transact_passed hb hr hp hd hg
    · next hdrop =>
      rw [not_and_or, Bool.not_eq_true, not_not] at hdrop
      exact transact_dropped hr hp hdrop
  · next hp => rw [transact, whenReady_of_ready hr, if_neg hp]

/-! ## The effect of a request, apart from its reply (R121) -/

/-- What a request that passes the gate does before its reply; a drop (R114) does nothing. -/
def requestOutcome (h : RequestHeader) (pd : List Byte) (pdLen : Nat) (s : State) :
    Except Fault (HandlerResult × State) :=
  if decodeCheck h pdLen then outcomeOf dispatchByKey (decodeView h pd s.cfg.ownUid) s
  else .ok (.silent, s)

/-- R95: the destination is no part of the outcome. -/
theorem requestOutcome_withDest (h : RequestHeader) (dest : Uid) (pd : List Byte) (pdLen : Nat)
    (s : State) :
    requestOutcome { h with dest := dest } pd pdLen s = requestOutcome h pd pdLen s := by
  have hsame : SameRequest (decodeView { h with dest := dest } pd s.cfg.ownUid)
      (decodeView h pd s.cfg.ownUid) := ⟨rfl, rfl, rfl, rfl, rfl⟩
  rw [requestOutcome, requestOutcome, hsame.outcomeOf_eq]
  rfl

/-- A drop ends as a transaction that does not reply. -/
theorem finish_eq_afterReply (s : State) : s.finish = s.afterReply .noReply := by
  simp only [State.finish, State.afterReply, sendsOf, List.append_nil]

/-- A request that passes the gate and completes: its outcome's state, and some reply. -/
theorem transact_next_requestOutcome {h : RequestHeader} {pd : List Byte} {pdLen : Nat}
    {s t : State} (hg : PassesGate h.dest s)
    (ht : transact h pd pdLen dispatchByKey s = .next t) :
    ∃ result s' reply, requestOutcome h pd pdLen s = .ok (result, s') ∧
      t = s'.afterReply reply := by
  obtain ⟨-, -, ⟨hd, rfl⟩ | ⟨-, hother, -⟩ | ⟨result, s', reply, hd, -, ho, -, rfl⟩⟩ :=
    transact_next_outcome dispatchByKey_txnBlind ht
  · exact ⟨.silent, s, .noReply, if_neg (Bool.eq_false_iff.1 hd), finish_eq_afterReply s⟩
  · exact absurd hother hg
  · exact ⟨result, s', reply, (if_pos hd).trans ho, rfl⟩

theorem filter_not_isSend_sendsOf (present : Bool) (reply : Reply) :
    (sendsOf present reply).filter (fun e => !e.isSend) = [] := by
  rw [List.filter_eq_nil_iff]
  intro e he
  simp [isSend_of_mem_sendsOf he]

/-- The replies to one effect differ in the Sends only. -/
theorem afterReply_differs_in_sends (s : State) (reply reply' : Reply) :
    { s.afterReply reply with events := (s.afterReply reply').events } = s.afterReply reply' ∧
      (s.afterReply reply).events.filter (fun e => !e.isSend) =
        (s.afterReply reply').events.filter fun e => !e.isSend := by
  refine ⟨rfl, ?_⟩
  simp only [State.afterReply, List.filter_append, filter_not_isSend_sendsOf]

/-! ## REQUIRES_ACTION (R94) -/

theorem requiresAction_eq_decide (dest own : Uid) :
    requiresAction dest own = decide (dest = own ∨ dest = uidAll ∨
      (deviceId dest = 0xFFFFFFFF ∧ manufacturerId dest = manufacturerId own)) := by
  unfold requiresAction addressClass
  split
  · next hown => simp [hown]
  · next hown =>
    split
    · next hall => simp [hall]
    · next hall =>
      split
      · next hvc => simp [hvc]
      · next hvc => simp only [hown, hall, hvc, or_self, decide_false, bne_self_eq_false]

/-! ## The statements -/

/-- Settles O49: neither slot enters the decode check, the address class, what the handlers read or
the reply. -/
theorem portIdAndMessageCountAreIgnored : Obligations.PortIdAndMessageCountAreIgnored := by
  intro h pd pdLen port count s
  rw [exec_handleRequest_of_header (headerOfBytes_headerBytes _),
    exec_handleRequest_of_header (headerOfBytes_headerBytes _),
    transact_eq dispatchByKey_txnBlind, transact_eq dispatchByKey_txnBlind]
  have hsame : SameRequest
      (decodeView { h with portId := port, msgCount := count } pd s.cfg.ownUid)
      (decodeView h pd s.cfg.ownUid) := ⟨rfl, rfl, rfl, rfl, rfl⟩
  rw [hsame.outcomeOf_eq]
  rfl

/-- Settles O50: the outcome is the same under both destinations, so one effect is answered twice. -/
theorem effectsDoNotDependOnTheReply : Obligations.EffectsDoNotDependOnTheReply := by
  intro h pd pdLen d1 d2 s t1 t2 hg1 hg2 ht1 ht2
  rw [exec_handleRequest_of_header (headerOfBytes_headerBytes _)] at ht1 ht2
  obtain ⟨result1, s1, reply1, ho1, rfl⟩ := transact_next_requestOutcome hg1 ht1
  obtain ⟨result2, s2, reply2, ho2, rfl⟩ := transact_next_requestOutcome hg2 ht2
  rw [requestOutcome_withDest] at ho1 ho2
  cases ho1.symm.trans ho2
  exact afterReply_differs_in_sends s1 reply1 reply2

/-- Settles O20: the result of R94 by its forms, returned from a ready state. -/
theorem requiresActionResult : Obligations.RequiresActionResult := by
  intro dest s hr
  rw [← requiresAction_eq_decide]
  exact execRequiresAction_next.2 ⟨hr, rfl⟩

end Sys2Proof.Machine

/-! PROOFS, the frame codec family. The standard frame that the encoder builds, and its overflow
fault (R103, R111). -/

namespace Sys2Proof.Machine

/-- R111: data that the PDL slot does not admit is the internal fault. -/
theorem buildStandard_of_lt_length (v : RequestView) (rtype : Byte) {data : List Byte}
    (h : 231 < data.length) : buildStandard v rtype data = .error .pdOverflow :=
  if_neg (Nat.not_le.2 h)

/-- Settles O25: up to 231 bytes the encoder builds the frame of the slot table, and past that it
faults. -/
theorem buildStandardLayout : Obligations.BuildStandardLayout := by
  intro v rtype data
  split
  · next hfits => exact buildStandard_eq_replyFrame v rtype hfits
  · next hlong => exact buildStandard_of_lt_length v rtype (Nat.not_le.1 hlong)

end Sys2Proof.Machine

/-! PROOFS, the dispatch FSM family. A request that passes the gate, from the sub-device check to
its Sends (R115 to R118, R124); and that the send capability decides about the Sends only (R123). -/

namespace Sys2Proof.Machine

/-! ## Requests that reach stage SUBDEVICE_CHECK (R113, R115) -/

/-- A HANDLE_REQUEST that passes admission, decode and gate. -/
structure ReachesCheck (hdr pd : List Byte) (pdLen : Nat) (h : RequestHeader) (s : State) :
    Prop where
  ready : Ready s
  header : headerOfBytes hdr = some h
  operands : OperandsOk pd pdLen
  decodes : PassesDecode h pdLen
  addressed : PassesGate h.dest s

section
variable {hdr pd : List Byte} {pdLen : Nat} {h : RequestHeader} {s s' : State}
  {result : HandlerResult}

/-- Stages SUBDEVICE_CHECK to TRANSPORT in one equation. -/
theorem ReachesCheck.completes (hr : ReachesCheck hdr pd pdLen h s)
    (ho : outcomeOf dispatchByKey (decodeView h pd s.cfg.ownUid) s = .ok (result, s'))
    (hfits : ∀ data, result = .ack data → data.length ≤ 231) :
    exec (.handleRequest hdr pd pdLen) s = .next (s'.completed (resultSends s h result)) := by
  obtain ⟨-, -, hsend⟩ := (outcomeOf_effect ho).keeps_config
  obtain ⟨reply, hreply, hsends⟩ := replyPolicy_resultSends h pd s hfits
  rw [exec_handleRequest_of_header hr.header, transact_passed dispatchByKey_txnBlind hr.ready
    (paramDataOk_iff.2 hr.operands) (decodeCheck_iff.2 hr.decodes) hr.addressed, ho]
  simp only [hreply, afterReply_eq_completed, hsend, hsends]

/-- R163, R165: under the invariant the handler answers, and its answer fits a frame. -/
theorem ReachesCheck.exists_completes (hr : ReachesCheck hdr pd pdLen h s) (hinv : s.Inv) :
    ∃ result s', outcomeOf dispatchByKey (decodeView h pd s.cfg.ownUid) s = .ok (result, s') ∧
      exec (.handleRequest hdr pd pdLen) s = .next (s'.completed (resultSends s h result)) := by
  obtain ⟨-, hbounds, -⟩ := hinv
  obtain ⟨hinit, -⟩ := hr.ready
  obtain ⟨hcfg, hlabel⟩ := hbounds hinit
  obtain ⟨hlen, -⟩ := hr.operands
  obtain ⟨-, -, hpdl, -⟩ := hr.decodes
  obtain ⟨result, s', ho⟩ := dispatchByKey_answers.outcomeOf
    (v := decodeView h pd s.cfg.ownUid) (hlen.trans hpdl.symm) s
  exact ⟨result, s', ho, hr.completes ho fun _ hack =>
    (hack ▸ outcomeOf_effect ho).length_ack_le hcfg hlabel⟩

end

/-! ## Which requests get a standard reply (R120, R124) -/

/-- R116, R126, R130: only the handler of DISC_UNIQUE_BRANCH answers with other than an ACK or a
NACK. -/
theorem outcomeOf_ack_or_nack {v : RequestView} {s s' : State} {result : HandlerResult}
    (ho : outcomeOf dispatchByKey v s = .ok (result, s'))
    (hdub : ¬(v.subDevice = 0 ∧ dispatchKey v.cc v.pid = 0x100001)) :
    (∃ data, result = .ack data) ∨ ∃ reason, result = .nack reason := by
  unfold outcomeOf at ho
  split at ho
  · next hroot =>
    have heff := dispatchByKey_effect ho
    generalize dispatchKey v.cc v.pid = key at heff hdub
    cases heff with
    | nack reason => exact .inr ⟨reason, rfl⟩
    | silent hkey => exact absurd ⟨hroot, hkey⟩ hdub
    | dub hkey _ => exact absurd ⟨hroot, hkey⟩ hdub
    | _ => exact .inl ⟨_, rfl⟩
  · cases ho
    exact .inr ⟨_, rfl⟩

/-- The Sends of an ACK or a NACK are those of one standard frame. -/
theorem resultSends_standard {result : HandlerResult}
    (hresult : (∃ data, result = .ack data) ∨ ∃ reason, result = .nack reason) (s : State)
    (h : RequestHeader) : ∃ rtype data, resultSends s h result = standardSends s h rtype data := by
  obtain ⟨data, rfl⟩ | ⟨reason, rfl⟩ := hresult
  · exact ⟨_, _, rfl⟩
  · exact ⟨_, _, rfl⟩

theorem filter_isSend_of_ports {ports : List Event} (h : ∀ e ∈ ports, e.isSend = false) :
    ports.filter Event.isSend = [] := by
  rw [List.filter_eq_nil_iff]
  intro e he
  simp [h e he]

theorem filter_isSend_standardSends (s : State) (h : RequestHeader) (rtype : Byte)
    (data : List Byte) :
    (standardSends s h rtype data).filter Event.isSend = standardSends s h rtype data := by
  unfold standardSends
  split <;> rfl

theorem standardSends_of_unicast {s : State} {h : RequestHeader}
    (hu : addressClass h.dest s.cfg.ownUid = .unicast) (hsend : s.sendPresent = true)
    (rtype : Byte) (data : List Byte) :
    ∃ frame, standardSends s h rtype data = [.send true [frame] 1] :=
  ⟨_, if_pos ⟨hu, hsend⟩⟩

/-- R120: no standard reply to a broadcast or vendorcast. -/
theorem standardSends_of_not_unicast {s : State} {h : RequestHeader}
    (hu : addressClass h.dest s.cfg.ownUid ≠ .unicast) (rtype : Byte) (data : List Byte) :
    standardSends s h rtype data = [] :=
  if_neg fun hsends => hu hsends.1

/-- R124: a request that reaches the sub-device check and is no DISC_UNIQUE_BRANCH for its handler
completes with the Sends of one standard reply, whatever port event its handler caused. -/
theorem ReachesCheck.replies_standard {hdr pd : List Byte} {pdLen : Nat} {h : RequestHeader}
    {s : State} (hr : ReachesCheck hdr pd pdLen h s) (hinv : s.Inv)
    (hdub : ¬(h.subDevice = 0 ∧ dispatchKey h.cc h.pid = 0x100001)) :
    ∃ t es rtype data, exec (.handleRequest hdr pd pdLen) s = .next t ∧
      t.events = s.events ++ es ∧ es.filter Event.isSend = standardSends s h rtype data := by
  obtain ⟨result, s', ho, hexec⟩ := hr.exists_completes hinv
  obtain ⟨rtype, data, hsends⟩ := resultSends_standard (outcomeOf_ack_or_nack ho hdub) s h
  obtain ⟨ports, hports, -, hport⟩ := (outcomeOf_effect ho).appends_port
  refine ⟨_, ports ++ standardSends s h rtype data, rtype, data, hexec, ?_, ?_⟩
  · rw [State.completed, hports, hsends, List.append_assoc]
  · rw [List.filter_append, filter_isSend_of_ports hport, List.nil_append,
      filter_isSend_standardSends]

/-! ## Who reads `send_present` (R22, R123) -/

/-- The state without a send capability. -/
def State.withoutSend (s : State) : State := { s with sendPresent := false }

/-- The handler answers the same without a send capability, and leaves the same state but for it. -/
def IgnoresSendPresent (d : Handler) : Prop :=
  ∀ (v : RequestView) (s : State),
    d v s.withoutSend = (d v s).map fun p => (p.1, p.2.withoutSend)

theorem handleGet_ignoresSendPresent {data : State → List Byte}
    (hd : ∀ s : State, data s.withoutSend = data s) : IgnoresSendPresent (handleGet data) := by
  intro v s
  unfold handleGet
  rw [hd]
  split <;> rfl

theorem handleDiscMute_ignoresSendPresent : IgnoresSendPresent handleDiscMute := by
  intro v s
  unfold handleDiscMute
  split <;> rfl

theorem handleDiscUnMute_ignoresSendPresent : IgnoresSendPresent handleDiscUnMute := by
  intro v s
  unfold handleDiscUnMute
  split <;> rfl

theorem handleDiscUniqueBranch_ignoresSendPresent :
    IgnoresSendPresent handleDiscUniqueBranch := by
  intro v s
  have hmuted : s.withoutSend.muted = s.muted := rfl
  have hcfg : s.withoutSend.cfg = s.cfg := rfl
  unfold handleDiscUniqueBranch
  rw [hmuted, hcfg]
  split
  · rfl
  · split
    · split
      · split <;> rfl
      · rfl
      · rfl
    · rfl

theorem handleSetDeviceLabel_ignoresSendPresent : IgnoresSendPresent handleSetDeviceLabel := by
  intro v s
  unfold handleSetDeviceLabel
  split
  · split <;> rfl
  · rfl

theorem handleSetIdentifyDevice_ignoresSendPresent :
    IgnoresSendPresent handleSetIdentifyDevice := by
  intro v s
  unfold handleSetIdentifyDevice
  split
  · split <;> rfl
  · rfl

/-- Every row of the dispatch table. -/
theorem handlerTable_ignoresSendPresent : ∀ p ∈ handlerTable, IgnoresSendPresent p.2 := by
  simp only [handlerTable, List.forall_mem_cons]
  exact ⟨handleDiscUniqueBranch_ignoresSendPresent, handleDiscMute_ignoresSendPresent,
    handleDiscUnMute_ignoresSendPresent, handleGet_ignoresSendPresent fun _ => rfl,
    handleGet_ignoresSendPresent fun _ => rfl, handleGet_ignoresSendPresent fun _ => rfl,
    handleGet_ignoresSendPresent fun _ => rfl, handleGet_ignoresSendPresent fun _ => rfl,
    handleSetDeviceLabel_ignoresSendPresent, handleGet_ignoresSendPresent fun _ => rfl,
    handleGet_ignoresSendPresent fun _ => rfl, handleSetIdentifyDevice_ignoresSendPresent, nofun⟩

theorem dispatchByKey_ignoresSendPresent : IgnoresSendPresent dispatchByKey := by
  intro v s
  unfold dispatchByKey
  split
  · split
    · next d hd => exact handlerTable_ignoresSendPresent _ (handlerOfKey_some hd) v s
    · rfl
  · rfl

theorem IgnoresSendPresent.outcomeOf {d : Handler} (hd : IgnoresSendPresent d) :
    IgnoresSendPresent (outcomeOf d) := by
  intro v s
  unfold Machine.outcomeOf
  split
  · exact hd v s
  · rfl

/-! ## The same operation, less its Sends (R123) -/

/-- The run completes as the one from `s` to `t` does, without a send capability and less the Sends
appended since `s`. -/
def CompletesLessSends (s t : State) (run : Run) : Prop :=
  ∃ es, t.events = s.events ++ es ∧
    run = .next
      { t with sendPresent := false, events := s.events ++ es.filter fun e => !e.isSend }

/-- A run that appends nothing does the same without a send capability. -/
theorem CompletesLessSends.of_events_eq {s t : State} (h : t.events = s.events) :
    CompletesLessSends s t (.next t.withoutSend) :=
  ⟨[], by rw [h, List.append_nil], by rw [List.filter_nil, List.append_nil, ← h]; rfl⟩

theorem filter_not_isSend_of_ports {ports : List Event} (h : ∀ e ∈ ports, e.isSend = false) :
    ports.filter (fun e => !e.isSend) = ports := by
  rw [List.filter_eq_self]
  intro e he
  simp [h e he]

theorem sendsOf_false (reply : Reply) : sendsOf false reply = [] := by
  cases reply <;> rfl

/-- The end of a transaction: the handler's port event stays, the reply's Send goes. -/
theorem CompletesLessSends.afterReply {s s' : State} {ports : List Event}
    (hports : s'.events = s.events ++ ports) (hport : ∀ e ∈ ports, e.isSend = false)
    (reply : Reply) :
    CompletesLessSends s (s'.afterReply reply) (.next (s'.withoutSend.afterReply reply)) := by
  refine ⟨ports ++ sendsOf s'.sendPresent reply, ?_, ?_⟩
  · rw [State.afterReply, hports, List.append_assoc]
  · have hless : s'.withoutSend.events ++ sendsOf s'.withoutSend.sendPresent reply =
        s.events ++ ports := by
      rw [State.withoutSend, sendsOf_false, List.append_nil, hports]
    rw [List.filter_append, filter_not_isSend_of_ports hport, filter_not_isSend_sendsOf,
      List.append_nil, State.afterReply, hless]
    rfl

/-- R123: only stage TRANSPORT reads `send_present`. -/
theorem transact_lessSends {h : RequestHeader} {pd : List Byte} {pdLen : Nat} {s t : State}
    (ht : transact h pd pdLen dispatchByKey s = .next t) :
    CompletesLessSends s t (transact h pd pdLen dispatchByKey s.withoutSend) := by
  obtain ⟨hr, hp, ⟨hd, rfl⟩ | ⟨-, hg, rfl⟩ | ⟨result, s', reply, hd, hg, ho, hpol, rfl⟩⟩ :=
    transact_next_outcome dispatchByKey_txnBlind ht
  · rw [transact_dropped (s := s.withoutSend) hr hp (.inl hd)]
    exact .of_events_eq (t := s.finish) rfl
  · rw [transact_dropped (s := s.withoutSend) hr hp (.inr hg)]
    exact .of_events_eq (t := s.finish) rfl
  · obtain ⟨ports, hports, -, hport⟩ := (outcomeOf_effect ho).appends_port
    have hcfg : s.withoutSend.cfg = s.cfg := rfl
    rw [transact_passed (s := s.withoutSend) dispatchByKey_txnBlind hr hp hd hg, hcfg,
      dispatchByKey_ignoresSendPresent.outcomeOf, ho]
    simp only [Except.map, hpol]
    exact .afterReply hports hport reply

theorem execHandleRequest_lessSends {hdr pd : List Byte} {pdLen : Nat} {s t : State}
    (ht : execHandleRequest hdr pd pdLen s = .next t) :
    CompletesLessSends s t (execHandleRequest hdr pd pdLen s.withoutSend) := by
  cases hh : headerOfBytes hdr with
  | none => exact absurd ht (execHandleRequest_ne_next hh)
  | some h =>
    simp only [execHandleRequest, hh] at ht ⊢
    exact transact_lessSends ht

/-- An operation that is neither INIT nor a request never looks at `send_present`. -/
theorem exec_withoutSend_of_no_request {i : Instr} {s t : State} (hi : isInit i = false)
    (hk : keyOf i = none) (ht : exec i s = .next t) :
    exec i s.withoutSend = .next t.withoutSend := by
  cases i with
  | init _ _ => cases hi
  | verifyChecksum buf length =>
    obtain ⟨hr, hok, b, hb, rfl⟩ := execVerifyChecksum_next.1 ht
    exact execVerifyChecksum_next.2 ⟨hr, hok, b, hb, rfl⟩
  | requiresAction dest =>
    obtain ⟨hr, rfl⟩ := execRequiresAction_next.1 ht
    exact execRequiresAction_next.2 ⟨hr, rfl⟩
  | isMuted =>
    obtain ⟨hr, rfl⟩ := execIsMuted_next.1 ht
    exact execIsMuted_next.2 ⟨hr, rfl⟩
  | handleRequest hdr pd pdLen =>
    exact absurd ht (execHandleRequest_ne_next (Option.map_eq_none_iff.1 hk))
  | _ => cases hk

/-! ## The statements -/

/-- Settles O29: the gate drops the request before any other stage. -/
theorem otherAddressesAreDropped : Obligations.OtherAddressesAreDropped := by
  intro hdr pd pdLen h s hr hh hops _ hother
  rw [exec_handleRequest_of_header hh]
  exact transact_dropped hr (paramDataOk_iff.2 hops) (.inr hother)

/-- Settles O30: the sub-device check answers in place of stage DISPATCH. -/
theorem subDeviceIsOutOfRange : Obligations.SubDeviceIsOutOfRange := by
  intro hdr pd pdLen h s hr hh hops hdec hgate hsub
  have hcheck : ReachesCheck hdr pd pdLen h s := ⟨hr, hh, hops, hdec, hgate⟩
  exact hcheck.completes (result := .nack nrSubDeviceOutOfRange) (if_neg hsub) nofun

/-- Settles O32: the command-class test passes and the lookup finds no row. -/
theorem unknownPidIsNacked : Obligations.UnknownPidIsNacked := by
  intro hdr pd pdLen h s hr hh hops hdec hgate hsub hcc hkey
  have hreach : ReachesDispatch hdr pd pdLen h s := ⟨hr, hh, hops, hdec, hgate, hsub⟩
  have hmiss : handlerOfKey (dispatchKey h.cc h.pid) = none :=
    handlerOfKey_none (Bool.eq_false_iff.2 (mt List.contains_iff_mem.1 hkey))
  have hd : dispatchByKey (decodeView h pd s.cfg.ownUid) s = .ok (.nack nrUnknownPid, s) := by
    rw [dispatchByKey, decodeView_cc, decodeView_pid, if_pos (supportedCc_iff.2 hcc), hmiss]
  exact hreach.completes hd nofun

/-- Settles O47: the operations that are no request never look at `send_present`, and of a request's
stages only the last does. -/
theorem nullSendCapabilityOnlyRemovesSends : Obligations.NullSendCapabilityOnlyRemovesSends := by
  intro i s t hi ht
  change CompletesLessSends s t (exec i s.withoutSend)
  cases hk : keyOf i with
  | some key =>
    obtain ⟨hdr, pd, pdLen, -, heq⟩ := exec_eq_handleRequest hk
    rw [heq] at ht ⊢
    exact execHandleRequest_lessSends ht
  | none =>
    rw [exec_withoutSend_of_no_request hi hk ht]
    obtain ⟨b, rfl⟩ := exec_returned hi hk ht
    exact .of_events_eq rfl

/-- Settles O51: a request of class OTHER is dropped, a DISC_UNIQUE_BRANCH that reaches its handler
has that row's own effect, and every other request gets one standard reply. -/
theorem replyCount : Obligations.ReplyCount := by
  intro hdr pd pdLen h s hr hinv hsend hh hops hdec reachesDub
  by_cases hgate : PassesGate h.dest s
  case neg =>
    have hother : addressClass h.dest s.cfg.ownUid = .other := not_not.1 hgate
    refine ⟨_, [], otherAddressesAreDropped hdr pd pdLen h s hr hh hops hdec hother,
      (List.append_nil _).symm, fun hu => ?_, fun _ _ => rfl, fun _ => rfl,
      fun hdub => absurd hdub.1 hgate⟩
    rw [hother] at hu
    cases hu
  by_cases hdub : reachesDub
  · have ⟨_, hroot, hkey⟩ := hdub
    have hreach : ReachesDispatch hdr pd pdLen h s := ⟨hr, hh, hops, hdec, hgate, hroot⟩
    refine ⟨_, _, hreach.dub hkey, rfl, fun _ hno => absurd hdub hno,
      fun _ hno => absurd hdub hno, fun hother => absurd hother hgate, fun _ => ?_⟩
    split
    · exact .inr (if_pos hsend)
    · exact .inl rfl
  · have hcheck : ReachesCheck hdr pd pdLen h s := ⟨hr, hh, hops, hdec, hgate⟩
    obtain ⟨t, es, rtype, data, hexec, hevents, hsends⟩ :=
      hcheck.replies_standard hinv fun hkey => hdub ⟨hgate, hkey⟩
    refine ⟨t, es, hexec, hevents, fun hu _ => ?_, fun hbroad _ => ?_,
      fun hother => absurd hother hgate, fun hyes => absurd hyes hdub⟩
    · exact hsends ▸ standardSends_of_unicast hu hsend rtype data
    · have hu : addressClass h.dest s.cfg.ownUid ≠ .unicast := by
        obtain hall | hvc := hbroad
        · rw [hall]; nofun
        · rw [hvc]; nofun
      exact hsends.trans (standardSends_of_not_unicast hu rtype data)

end Sys2Proof.Machine


/-! PROOFS, the discovery family. The three discovery rows as request kinds (R127, R128, R130 to
R133), and that a DUB has Sends for its only effect (R134). -/

namespace Sys2Proof.Machine

/-! ## A delivered request kind is a HANDLE_REQUEST that reaches stage DISPATCH (R113, R119) -/

/-- Delivery does not depend on the class and PID, which the request kind adds. -/
theorem reachesDispatch_of_delivered {r : RequestOperands} {s : State} (hr : Ready s)
    (hdel : Delivered r s) (cc : Byte) (pid : Word16) :
    ReachesDispatch (headerBytes (operandsHeader r cc pid)) r.pd r.pdLen
      (operandsHeader r cc pid) s := by
  obtain ⟨hops, hdec, hgate, hroot⟩ := hdel
  exact ⟨hr, headerOfBytes_headerBytes _, hops, hdec, hgate, hroot⟩

/-! ## What a DISC_UNIQUE_BRANCH can do (R116, R130, R134) -/

/-- Behind the sub-device check too, the DUB row leaves the state as it is; a muted block answers
with silence. -/
theorem outcomeOf_dub {v : RequestView} {s s' : State} {result : HandlerResult}
    (ho : outcomeOf handleDiscUniqueBranch v s = .ok (result, s')) :
    s' = s ∧ (s.muted = true → v.subDevice = 0 → result = .silent) := by
  unfold outcomeOf at ho
  split at ho
  · obtain ⟨hsame, hsilent | ⟨hunmuted, -, -⟩⟩ := handleDiscUniqueBranch_ok ho
    · exact ⟨hsame, fun _ _ => hsilent⟩
    · exact ⟨hsame, fun hmuted _ => absurd hmuted (Bool.eq_false_iff.1 hunmuted)⟩
  · next hsub =>
    cases ho
    exact ⟨rfl, fun _ hroot => absurd hroot hsub⟩

/-- A DUB that completes is a drop or a reply on the state it started in. -/
theorem exec_discUniqueBranch_next {r : RequestOperands} {s t : State}
    (ht : exec (.discUniqueBranch r) s = .next t) :
    ∃ reply, t = s.completed (sendsOf s.sendPresent reply) ∧
      (s.muted = true → r.subDevice = 0 → reply = .noReply) := by
  obtain ⟨-, -, ⟨-, rfl⟩ | ⟨-, -, rfl⟩ | ⟨result, s', reply, -, -, ho, hp, rfl⟩⟩ :=
    transact_next_outcome handleDiscUniqueBranch_txnBlind ht
  · exact ⟨.noReply, finish_eq_afterReply s, fun _ _ => rfl⟩
  · exact ⟨.noReply, finish_eq_afterReply s, fun _ _ => rfl⟩
  · obtain ⟨rfl, hsilent⟩ := outcomeOf_dub ho
    refine ⟨reply, afterReply_eq_completed _ _, fun hmuted hroot => ?_⟩
    rw [hsilent hmuted hroot] at hp
    cases hp
    rfl

/-! ## The statements -/

/-- Settles O35: the row that sets `muted`, reached through HANDLE_REQUEST. -/
theorem discMuteResult : Obligations.DiscMuteResult := by
  intro r s hr hdel
  have hrow : handlerOfKey (dispatchKey 0x10 0x0002) = some handleDiscMute := rfl
  have hreach := reachesDispatch_of_delivered hr hdel 0x10 0x0002
  exact (transact_kind_eq_handleRequest rfl hrow r s).trans (hreach.setMuted (v := true) hrow rfl)

/-- Settles O36: the row that clears `muted`, reached through HANDLE_REQUEST. -/
theorem discUnMuteResult : Obligations.DiscUnMuteResult := by
  intro r s hr hdel
  have hrow : handlerOfKey (dispatchKey 0x10 0x0003) = some handleDiscUnMute := rfl
  have hreach := reachesDispatch_of_delivered hr hdel 0x10 0x0003
  exact (transact_kind_eq_handleRequest rfl hrow r s).trans (hreach.setMuted (v := false) hrow rfl)

/-- Settles O37: the DUB row, reached through HANDLE_REQUEST. -/
theorem discUniqueBranchResult : Obligations.DiscUniqueBranchResult := by
  intro r s hr hdel
  have hkey : dispatchKey 0x10 0x0001 = 0x100001 := rfl
  have hreach := reachesDispatch_of_delivered hr hdel 0x10 0x0001
  exact (transact_kind_eq_handleRequest rfl rfl r s).trans (hreach.dub hkey)

/-- Settles O38: the reply is all that a DUB adds, and a muted block makes none on sub-device 0. -/
theorem dubChangesNothing : Obligations.DubChangesNothing := by
  intro r s t ht
  obtain ⟨reply, rfl, hnone⟩ := exec_discUniqueBranch_next ht
  refine ⟨⟨_, rfl, fun _ => isSend_of_mem_sendsOf⟩, fun hmuted hroot => ?_⟩
  rw [hnone hmuted hroot]
  exact List.append_nil _

end Sys2Proof.Machine

/-! PROOFS, the parameters family. The GET and SET rows as request kinds (R138 to R149), and that a
GET has Sends for its only effect (R150). -/

namespace Sys2Proof.Machine

/-! ## The GET rows (R137, R150) -/

/-- R137: a GET kind that reaches its handler answers with the row's data, or NR_FORMAT_ERROR, on the
state it started in. -/
theorem transact_get_of_delivered {data : State → List Byte} {r : RequestOperands} {s : State}
    {pid : Word16} (hr : Ready s) (hdel : Delivered r s)
    (hrow : handlerOfKey (dispatchKey 0x20 pid) = some (handleGet data))
    (hfits : (data s).length ≤ 231) :
    transact (operandsHeader r 0x20 pid) r.pd r.pdLen (handleGet data) s = .next (s.completed
      (if r.pdl = 0 then standardSends s (operandsHeader r 0x20 pid) 0x00 (data s)
       else standardSends s (operandsHeader r 0x20 pid) 0x02 [0x00, 0x01])) := by
  have hreach := reachesDispatch_of_delivered hr hdel 0x20 pid
  rw [transact_kind_eq_handleRequest rfl hrow, hreach.get hrow hfits, operandsHeader_pdl,
    List.nil_append, apply_ite s.completed]

/-- R116, R150: behind the sub-device check too, a GET leaves the state as it is. -/
theorem outcomeOf_handleGet {data : State → List Byte} {v : RequestView} {s s' : State}
    {result : HandlerResult} (ho : outcomeOf (handleGet data) v s = .ok (result, s')) : s' = s := by
  unfold outcomeOf at ho
  split at ho
  · exact (handleGet_ok ho).1
  · cases ho
    rfl

/-- R150: a GET that completes is a drop or a reply on the state it started in, so it adds Sends and
nothing else. -/
theorem transact_get_adds_sends {data : State → List Byte} {h : RequestHeader} {pd : List Byte}
    {pdLen : Nat} {s t : State} (ht : transact h pd pdLen (handleGet data) s = .next t)
    (hdata : ∀ (s : State) (x : Transaction), data (s.withTxn x) = data s) :
    ∃ sends, t = s.completed sends ∧ ∀ e ∈ sends, e.isSend = true := by
  suffices hreply : ∃ reply, t = s.afterReply reply by
    obtain ⟨reply, rfl⟩ := hreply
    exact ⟨_, afterReply_eq_completed s reply, fun _ => isSend_of_mem_sendsOf⟩
  obtain ⟨-, -, ⟨-, rfl⟩ | ⟨-, -, rfl⟩ | ⟨result, s', reply, -, -, ho, -, rfl⟩⟩ :=
    transact_next_outcome (handleGet_txnBlind hdata) ht
  · exact ⟨.noReply, finish_eq_afterReply s⟩
  · exact ⟨.noReply, finish_eq_afterReply s⟩
  · exact ⟨reply, outcomeOf_handleGet ho ▸ rfl⟩

/-! ## The statements -/

/-- Settles O40: five GET rows, which differ in their data and in why it fits a frame. -/
theorem constantParametersAreReturned : Obligations.ConstantParametersAreReturned := by
  intro r s hr hcfg hdel
  obtain ⟨hpids, hmodel, hmanufacturer, hsoftware, -⟩ := cfgValid_lengths hcfg
  have hpidsFit : (supportedPd s.cfg.supportedPids).length ≤ 231 := by
    rw [length_supportedPd]
    omega
  have hinfoFits : (deviceInfoPd s.cfg.deviceInfo).length ≤ 231 := by simp [deviceInfoPd]
  exact ⟨transact_get_of_delivered hr hdel rfl hpidsFit,
    transact_get_of_delivered hr hdel rfl hinfoFits,
    transact_get_of_delivered hr hdel rfl (hmodel.trans (by decide)),
    transact_get_of_delivered hr hdel rfl (hmanufacturer.trans (by decide)),
    transact_get_of_delivered hr hdel rfl (hsoftware.trans (by decide))⟩

/-- Settles O41: the two GET rows whose data is a register; the label's bound is R25's. -/
theorem registersAreReturned : Obligations.RegistersAreReturned := by
  intro r s hr hlabel hdel
  have hidentifyFits : (identifyPd s.identifyOn).length ≤ 231 := by simp [identifyPd]
  exact ⟨transact_get_of_delivered hr hdel rfl (hlabel.trans (by decide)),
    transact_get_of_delivered hr hdel rfl hidentifyFits⟩

/-- Settles O42: the row that writes the label register, reached through HANDLE_REQUEST. -/
theorem setDeviceLabelResult : Obligations.SetDeviceLabelResult := by
  intro r s hr hdel
  have hkey : dispatchKey 0x30 0x0082 = 0x300082 := rfl
  have hreach := reachesDispatch_of_delivered hr hdel 0x30 0x0082
  exact (transact_kind_eq_handleRequest rfl rfl r s).trans (hreach.setLabel hkey)

/-- Settles O43: the row that writes `identify_on`, reached through HANDLE_REQUEST. -/
theorem setIdentifyDeviceResult : Obligations.SetIdentifyDeviceResult := by
  intro r s hr hdel
  have hkey : dispatchKey 0x30 0x1000 = 0x301000 := rfl
  have hreach := reachesDispatch_of_delivered hr hdel 0x30 0x1000
  exact (transact_kind_eq_handleRequest rfl rfl r s).trans (hreach.setIdentify hkey)

/-- Settles O44: each of the seven is a transaction of a GET row, whose data does not depend on the
transient state. -/
theorem getsWriteNothing : Obligations.GetsWriteNothing := by
  intro r s t ht
  obtain ht | ht | ht | ht | ht | ht | ht := ht <;>
    exact transact_get_adds_sends ht fun _ _ => rfl

end Sys2Proof.Machine

/-! PROOFS, the control family. INIT as one equation (R152, R156), and the refusals of R155. -/

namespace Sys2Proof.Machine

/-! ## INIT (R9, R152, R156) -/

/-- R9, with its bounds as numbers. -/
theorem cfgValid_iff {c : Cfg} :
    cfgValid c = true ↔
      deviceId c.ownUid ≠ 0xFFFFFFFF ∧ c.supportedPids.length ≤ 115 ∧
        c.modelDescription.length ≤ 32 ∧ c.manufacturerLabel.length ≤ 32 ∧
        c.softwareVersionLabel.length ≤ 32 ∧ c.defaultDeviceLabel.length ≤ 32 := by
  simp [cfgValid, supportedPidsMax, labelMax, and_assoc]

/-- Between transactions the admission test of INIT is R9 alone: `initialized` is not read. -/
theorem execInit_of_idle {s : State} (hidle : s.txn.stage = .idle) (cfg : Cfg) (present : Bool) :
    execInit cfg present s =
      if cfgValid cfg then .next ((s.initialise cfg present).returning none)
      else .refused .invalidConfiguration :=
  whenIdle_of_idle hidle

/-! ## HANDLE_REQUEST (R58, R155) -/

theorem transact_refused {h : RequestHeader} {pd : List Byte} {pdLen : Nat} {d : Handler}
    {s : State} (hr : Ready s) (hbad : ¬ OperandsOk pd pdLen) :
    transact h pd pdLen d s = .refused .requestOperands := by
  rw [transact, whenReady_of_ready hr, if_neg (mt paramDataOk_iff.1 hbad)]

/-- R58: a header of the wrong length is refused before the parameter data is looked at. -/
theorem execHandleRequest_refused {hdr pd : List Byte} {pdLen : Nat} {s : State} (hr : Ready s)
    (hbad : hdr.length ≠ 24 ∨ ¬ OperandsOk pd pdLen) :
    execHandleRequest hdr pd pdLen s = .refused .requestOperands := by
  unfold execHandleRequest
  cases hh : headerOfBytes hdr with
  | none => exact whenReady_of_ready hr
  | some h =>
    have hlen : ¬ hdr.length ≠ 24 := fun hne => by
      cases hh.symm.trans (headerOfBytes_eq_none.2 hne)
    exact transact_refused hr (hbad.resolve_left hlen)

/-! ## The statements -/

/-- Settles O17: one admission lemma for each of the five refusals. -/
theorem malformedOperationsAreRefused : Obligations.MalformedOperationsAreRefused := by
  intro s hidle
  obtain ⟨-, -, -, -, hgate⟩ := initializedGatesEveryOperation
  refine ⟨stepRefusesReservedSelects s, fun hs i hi => hgate i s hi hs hidle,
    fun cfg p hbad => ?_,
    fun hs buf length hbad => execVerifyChecksum_refused ⟨hs, hidle⟩ (by omega),
    fun hs hdr pd pdLen hbad => execHandleRequest_refused ⟨hs, hidle⟩
      (hbad.imp_right fun hpd ⟨hlen, hmax⟩ => by omega)⟩
  have hinvalid : ¬ cfgValid cfg = true := by
    rw [cfgValid_iff]
    rintro ⟨hid, hbounds⟩
    exact hbad.elim hid (by omega)
  exact (execInit_of_idle hidle cfg p).trans (if_neg hinvalid)

/-- Settles O18: the model's check is R9, and INIT's next state is the operands. -/
theorem initReplacesEveryRegister : Obligations.InitReplacesEveryRegister := by
  intro cfg p s hidle
  exact (execInit_of_idle hidle cfg p).trans (if_congr cfgValid_iff rfl rfl)

end Sys2Proof.Machine

/-! PROOFS, the exceptions and hazards family. The two internal faults and that no operation reaches
them (R162, R165), the wait (R176), and an operation during another (R180). -/

namespace Sys2Proof.Machine

/-! ## The two fault sites (R11, R111) -/

theorem buildStandard_pdOverflow_iff {v : RequestView} {rtype : Byte} {data : List Byte} :
    buildStandard v rtype data = .error .pdOverflow ↔ 231 < data.length := by
  refine ⟨fun hfault => ?_, buildStandard_of_lt_length v rtype⟩
  by_contra hfits
  obtain ⟨frame, hok⟩ := buildStandard_of_length_le v rtype (Nat.not_lt.1 hfits)
  cases hok.symm.trans hfault

theorem memRead_readOutOfBounds_iff {buf : List Byte} {i n : Nat} :
    memRead buf i n = .error .readOutOfBounds ↔ buf.length < i + n := by
  unfold memRead
  split
  · next hin => simpa using hin
  · next hout => simpa using hout

/-! ## No operation reaches them (R165) -/

/-- INIT builds no frame and reads no buffer, in whatever state. -/
theorem execInit_ne_fault (cfg : Cfg) (present : Bool) (s : State) (f : Fault) :
    execInit cfg present s ≠ .fault f := by
  unfold execInit whenIdle
  split
  · split <;> nofun
  · nofun

/-- R58 keeps both reads of the validator inside the buffer. -/
theorem execVerifyChecksum_ne_fault (buf : List Byte) (length : Nat) (s : State) (f : Fault) :
    execVerifyChecksum buf length s ≠ .fault f := by
  intro hfault
  obtain ⟨-, hfault⟩ := whenReady_fault.1 hfault
  split at hfault
  · next hok =>
    obtain ⟨hle, -⟩ := checksumOperandsOk_iff.1 hok
    split at hfault
    · cases hfault
    · next g herr => exact verifyChecksum_ne_fault hle g herr
  · cases hfault

/-- R9 and R25 bound every handler's data, and a fault would need an admitted request. -/
theorem transact_ne_fault {s : State} (hs : s.Inv) (h : RequestHeader) (pd : List Byte)
    (pdLen : Nat) (f : Fault) : transact h pd pdLen dispatchByKey s ≠ .fault f := by
  intro hfault
  obtain ⟨hr, hp, -⟩ := transact_fault hfault
  obtain ⟨-, hbounds, -⟩ := hs
  obtain ⟨hcfg, hlabel⟩ := hbounds hr.1
  obtain ⟨t, ht⟩ := transact_completes (h := h) hr (paramDataOk_iff.1 hp) hcfg hlabel
  cases ht.symm.trans hfault

theorem exec_ne_fault {s : State} (hs : s.Inv) (i : Instr) (f : Fault) : exec i s ≠ .fault f := by
  cases hk : keyOf i with
  | some key =>
    obtain ⟨h, pd, pdLen, -, heq⟩ := exec_eq_transact hk s
    exact heq ▸ transact_ne_fault hs h pd pdLen f
  | none =>
    cases i with
    | init cfg present => exact execInit_ne_fault cfg present s f
    | verifyChecksum buf length => exact execVerifyChecksum_ne_fault buf length s f
    | requiresAction dest => exact fun hfault => nomatch (whenReady_fault.1 hfault).2
    | isMuted => exact fun hfault => nomatch (whenReady_fault.1 hfault).2
    | handleRequest hdr pd pdLen =>
      have hh : headerOfBytes hdr = none := Option.map_eq_none_iff.1 hk
      intro hfault
      rw [exec, execHandleRequest, hh] at hfault
      cases (whenReady_fault.1 hfault).2
    | _ => cases hk

/-! ## One step -/

/-- R176, log entry 1. -/
theorem step_of_nothing_presented {s : State} (hin : s.input = []) : step s = .next s := by
  simp only [step, fetch, hin]

/-- A step faults in the operation it runs only: neither the wait nor the decoder faults. -/
theorem step_fault {s : State} {f : Fault} (h : step s = .fault f) :
    ∃ b rest i, s.input = b :: rest ∧ decode b = .ok i ∧
      exec i { s with input := rest } = .fault f := by
  cases hin : s.input with
  | nil => cases (step_of_nothing_presented hin).symm.trans h
  | cons b rest =>
    cases hdec : decode b with
    | error err =>
      obtain ⟨op⟩ := err
      simp only [step, fetch, hin, hdec] at h
      cases h
    | ok i => exact ⟨b, rest, i, rfl, hdec, step_of_presented hin hdec ▸ h⟩

/-- The invariant does not look at what the host presents. -/
theorem State.Inv.safe {s : State} (hs : s.Inv) : Safe s := by
  intro f hfault
  obtain ⟨b, rest, i, -, -, hexec⟩ := step_fault hfault
  have hs' : State.Inv { s with input := rest } := hs
  exact exec_ne_fault hs' i f hexec

/-! ## An operation during another (R180, U11) -/

theorem whenIdle_of_busy {s : State} (h : s.txn.stage ≠ .idle) (k : Run) :
    whenIdle s k = .refused .operationInProgress := if_neg h

/-- INIT stands behind the test of the stage alone, every other operation behind that of
`initialized` too. -/
theorem exec_eq_whenIdle (i : Instr) (s : State) : ∃ k, exec i s = whenIdle s k := by
  cases hi : isInit i with
  | false =>
    obtain ⟨k, hk⟩ := exec_eq_whenReady hi s
    exact ⟨_, hk⟩
  | true =>
    cases i with
    | init cfg present => exact ⟨_, rfl⟩
    | _ => cases hi

/-! ## The statements -/

/-- Settles O15: each fault has its one site, and under the invariant every operation stays clear of
both. -/
theorem noInternalFault : Obligations.NoInternalFault :=
  ⟨fun _ _ _ => buildStandard_pdOverflow_iff, fun _ _ _ => memRead_readOutOfBounds_iff,
    fun _ hs => ⟨exec_ne_fault hs, hs.safe⟩⟩

/-- Settles O3: the host presents no operation to take. -/
theorem stepWaitsForAnOperation : Obligations.StepWaitsForAnOperation :=
  fun _ hin => step_of_nothing_presented hin

/-- Settles O4: the test of the stage comes first in every operation. -/
theorem oneOperationAtATime : Obligations.OneOperationAtATime := by
  intro i s hbusy
  obtain ⟨k, hk⟩ := exec_eq_whenIdle i s
  rw [hk, whenIdle_of_busy hbusy]

end Sys2Proof.Machine
